-- ==== Sys2Proof/Word.lean ====
section
/-! DEFINITION. The widths the manual gives: bytes and two-byte fields of frames and of the configuration
image (chapter 11), and the numbers of load points and services. -/

namespace Sys2Proof

/-- One byte of a frame or of the configuration image. -/
abbrev Byte := BitVec 8

/-- A two-byte field of a frame or of the configuration image. -/
abbrev Half := BitVec 16

/-- A load point LP0 to LP7. -/
abbrev LpId := Fin 8

/-- A plant service S0 to S11. -/
abbrev SvcId := Fin 12

/-- LP0 to LP7 in ascending order, the order in which the rules walk the load points. -/
def lpIds : List LpId := [0, 1, 2, 3, 4, 5, 6, 7]

/-- S0 to S11 in ascending order. -/
def svcIds : List SvcId := [0, 1, 2, 3, 4, 5, 6, 7, 8, 9, 10, 11]

/-- The event that follows a count which stops at `top` (a saturating counter of the Conventions). -/
def satSucc (top n : Nat) : Nat := min top (n + 1)

end Sys2Proof
end

