-- ==== Sys2Proof/Config.lean ====
section
/-! DEFINITION. What one station fixes and the spec leaves open, and the constants the model reads time with. -/

namespace Sys2Proof

/-- The byte a station sends at position `k` (0 to 5) of the six demand-pair bytes of an entry, where `k` lies
beyond the entry's pair count. R172 says those bytes are not part of the entry and no rule gives their value:
a free value (log entry 3). -/
opaque Config.unusedPairByte : Nat → BitVec 8

/-- What passes while the block idles through one step with an empty command queue, in microseconds
(log entry 1: the table has no row for the passage of time). -/
def Config.tickUs : Nat := 1000

/-- One slot of the link backoff: 64 bit times of 16 µs (R67, R75). -/
def Config.slotUs : Nat := 1024

/-- How many consequences of one event the model takes before it stops looking for more (log entry 2). -/
def Config.cascadeBound : Nat := 400

end Sys2Proof
end

