-- ==== Sys2Proof/Syntax.lean ====
section
/-! DEFINITION. The commands of the block: one constructor of `Instr` for each row of the opcode table, with the
data the event brings. Frame contents are carried with the raw widths of chapter 11, so that every value a
peer can send has a command. -/

namespace Sys2Proof

/-- The three inputs read as levels by a load point channel, and the read-back of its driver (R65). -/
inductive LpLine where
  | run | grant | hand | stoprb
  deriving DecidableEq, Repr

/-- Who starts an attempt on the line: this station, or another station or the tool (R73; log entry 36). -/
inductive Sender where
  | own | other
  deriving DecidableEq, Repr

/-- How an attempt is lost (R74): to another sender, whose dominant bit stands on the line; or against the own driver,
whose dominant bit reads back as recessive, at the first start bit of the frame or at a later bit (log entry 14). -/
inductive Loss where
  | toSender | startUndriven | laterUndriven
  deriving DecidableEq, Repr

/-- The mode item of a beacon (R86). -/
inductive BeaconMode where
  | listenIn | day | night | wake
  deriving DecidableEq, Repr

/-- One figure of a beacon as it stands in the payload (section 11.2). -/
structure RawFigure where
  service : Byte
  demand : Half
  capacity : Half
  deriving DecidableEq, Repr

/-- A BEACON payload (section 11.2); the figure count is the length of the list. -/
structure BeaconMsg where
  mode : BeaconMode
  nightLine : Bool
  planRequest : Bool
  viewOverflow : Bool
  isolated : Bool
  interval : Byte
  alertClass : BitVec 4
  alertLevel : BitVec 3
  figures : List RawFigure
  deriving DecidableEq, Repr

/-- A service record, 7 bytes of a PLAN page or of the image (section 11.2). -/
structure ServiceBlock where
  inUse : Byte
  margin : Byte
  cmin : Half
  surplusHold : Half
  shortfallConfirm : Byte
  deriving DecidableEq, Repr

/-- The plan block: plan_number, W, G and B (section 11.5). -/
structure PlanBlock where
  planNumber : Half
  w : Half
  g : Half
  b : Half
  deriving DecidableEq, Repr

/-- The four service records of one PLAN page. -/
structure PageServices where
  s0 : ServiceBlock
  s1 : ServiceBlock
  s2 : ServiceBlock
  s3 : ServiceBlock
  deriving DecidableEq, Repr

/-- A PLAN payload: page 0 with the plan values, or any other page number with four service records. -/
inductive PlanPage where
  | first (head : PlanBlock) (services : PageServices)
  | later (page : Byte) (services : PageServices)
  deriving DecidableEq, Repr

/-- One demand pair as stored. -/
structure RawPair where
  service : Byte
  units : Byte
  deriving DecidableEq, Repr

/-- One 15-byte entry of an INTENT frame (section 11.2). -/
structure RawEntry where
  lp : Byte
  action : Byte
  cause : Byte
  level : Byte
  provides : Byte
  capacity : Half
  inrush : Byte
  pairCount : Byte
  pair0 : RawPair
  pair1 : RawPair
  pair2 : RawPair
  deriving DecidableEq, Repr

/-- The commands the block takes, one per row of the opcode table and in its order.
`seq` is the sequence byte of a tool's request (R165). -/
inductive Instr where
  | powerOn
  | loadAttemptFailed
  | headerRead (format : Byte) (length sum : Half)
  | bodyRead (body : List Byte)
  | uptimeTick
  | actFirstLevel (lp : LpId) (high : Bool)
  | strokeEdge (lp : LpId) (high : Bool)
  | loadLevelChange (lp : LpId) (high : Bool)
  | quadratureEdge (lp : LpId) (high : Bool)
  | bothPhasesChange (lp : LpId) (highA highB : Bool)
  | rotationSample (lp : LpId)
  | idleTimerDecrease (lp : LpId)
  | idleExpiry (lp : LpId)
  | lineFirstLevel (line : LpLine) (lp : LpId) (present : Bool)
  | runRise (lp : LpId)
  | runDrop (lp : LpId)
  | grantRise (lp : LpId)
  | grantDrop (lp : LpId)
  | handAsserted (lp : LpId)
  | handReleased (lp : LpId)
  | stoprbEdge (lp : LpId) (asserted : Bool)
  | readBackWatchExpiry (lp : LpId)
  | stopTimerExpiry (lp : LpId)
  | coastTimerExpiry (lp : LpId)
  | startTimerExpiry (lp : LpId)
  | settleTimerExpiry (lp : LpId)
  | runOnExpiry (lp : LpId)
  | leadTimerExpiry (lp : LpId)
  | nightFirstLevel (asserted : Bool)
  | nightEdge (asserted : Bool)
  | listenInTimerExpiry
  | beaconTimerExpiry
  | surplusTimerExpiry (lp : LpId)
  | shortfallTimerExpiry (svc : SvcId)
  /-- `sender`: whose start bit begins on the line. -/
  | attemptStart (sender : Sender := .own)
  /-- `ownDriverSilent`: the bit lost was an own dominant bit read back as recessive (R74).
  `draw`: the random draw of R75, of which the low k bits count. -/
  | lostContention (loss : Loss) (draw : BitVec 5)
  | backoffExpiry
  | frameCompleted
  | receptionEndedEarly
  | crcError
  | formatError
  | beacon (src seq : Byte) (msg : BeaconMsg)
  | plan (src toggle : Byte) (page : PlanPage)
  | intent (src heard : Byte) (entries : List RawEntry)
  | reply (src : Byte)
  | foreignToolFrame
  | addressConflict
  | silenceTimerExpiry
  | ageTimerExpiry (address : Byte)
  | overflowTimerExpiry
  | answerHoldExpiry (address : Byte)
  | sharedAnswerHoldExpiry
  | roundClose
  | guardExpiry
  | inquiryStationStatus (seq start count : Byte)
  | inquiryLpRuntime (seq start count : Byte)
  | inquiryPeerTable (seq start count : Byte)
  | inquiryLastRound (seq start count : Byte)
  | inquiryFaultRecords (seq start count : Byte)
  | inquiryCounters (seq start count : Byte)
  | inquiryConfigurationEcho (seq start count : Byte)
  | badTable (seq table start count : Byte)
  | clearFault (seq lps : Byte) (station : Bool)
  | clearLockout (seq lps : Byte)
  | excludeLps (seq lps : Byte)
  | includeLps (seq lps : Byte)
  | forgetPeer (seq address : Byte)
  | clearAlerts (seq : Byte) (classes : Half)
  | restart (seq : Byte)
  | badDirective (seq code : Byte) (argument : Half)
  | lineIdle
  deriving DecidableEq, Repr

end Sys2Proof
end

