-- ==== Sys2Proof/WellFormed.lean ====
section
/-! DEFINITION. The commands the block's surroundings can bring: the data of each event lies in the range its
rule gives. `exec` is total and gives an ill-formed command the nearest meaning the rules allow. -/

namespace Sys2Proof

/-- A station address on the link (R71). -/
def isStation (a : Byte) : Bool := 1 ≤ a.toNat && a.toNat ≤ 60

/-- The body length of image format 1 (section 11.5). -/
def imageBodyLength : Nat := 377

/-- A PLAN page whose length fits its page number (R172): page 0 is the only one with the plan values. -/
def PlanPage.lengthOk : PlanPage → Bool
  | .first _ _ => true
  | .later p _ => p != 0

/-- A code of the seven tables of R167 and of the seven directives of R169. -/
def isToolCode (c : Byte) : Bool := 1 ≤ c.toNat && c.toNat ≤ 7

/-- The range of each command's data. -/
def Instr.wellFormed : Instr → Bool
  | .bodyRead body => body.length == imageBodyLength
  | .beacon src _ msg => isStation src && msg.figures.length ≤ 12
  | .plan src _ page => isStation src && page.lengthOk
  | .intent src _ entries => isStation src && 1 ≤ entries.length && entries.length ≤ 4
  | .reply src => isStation src
  | .ageTimerExpiry a => isStation a
  | .answerHoldExpiry a => isStation a
  | .badTable _ table _ _ => !isToolCode table
  | .badDirective _ code _ => !isToolCode code
  | .bothPhasesChange lp _ _ => lp.val % 2 == 0
  | .powerOn | .loadAttemptFailed | .headerRead _ _ _ | .uptimeTick | .actFirstLevel _ _ | .strokeEdge _ _
  | .loadLevelChange _ _ | .quadratureEdge _ _ | .rotationSample _ | .idleTimerDecrease _ | .idleExpiry _
  | .lineFirstLevel _ _ _ | .runRise _ | .runDrop _ | .grantRise _ | .grantDrop _ | .handAsserted _
  | .handReleased _ | .stoprbEdge _ _ | .readBackWatchExpiry _ | .stopTimerExpiry _ | .coastTimerExpiry _
  | .startTimerExpiry _ | .settleTimerExpiry _ | .runOnExpiry _ | .leadTimerExpiry _ | .nightFirstLevel _
  | .nightEdge _ | .listenInTimerExpiry | .beaconTimerExpiry | .surplusTimerExpiry _ | .shortfallTimerExpiry _
  | .attemptStart _ | .lostContention _ _ | .backoffExpiry | .frameCompleted | .receptionEndedEarly | .crcError
  | .formatError | .foreignToolFrame | .addressConflict | .silenceTimerExpiry | .overflowTimerExpiry
  | .sharedAnswerHoldExpiry | .roundClose | .guardExpiry | .inquiryStationStatus _ _ _ | .inquiryLpRuntime _ _ _
  | .inquiryPeerTable _ _ _ | .inquiryLastRound _ _ _ | .inquiryFaultRecords _ _ _ | .inquiryCounters _ _ _
  | .inquiryConfigurationEcho _ _ _ | .clearFault _ _ _ | .clearLockout _ _ | .excludeLps _ _ | .includeLps _ _
  | .forgetPeer _ _ | .clearAlerts _ _ | .restart _ | .lineIdle => true

end Sys2Proof
end

