-- ==== Sys2Proof/Machine/State.lean ====
section
/-! DEFINITION. Every piece of state the manual gives the station, block by block in the order of its block
overview, as plain data; the reasons a step can stop; and the state right after reset. -/

namespace Sys2Proof.Machine

/-! ### Timers -/

/-- A timer of the Conventions. `running` carries microseconds: the time remaining, or, for the surplus and
shortfall timers, the time it has run. `expired` is held by the timers a rule calls expired until something
restarts or cancels them (R53, R81, R109, R112). -/
inductive Timer where
  | off
  | running (us : Nat)
  | expired
  deriving DecidableEq, Repr

/-! ### Configuration (chapter 1) -/

/-- The 34-byte record of one load point (R5 to R8, section 11.5), held as stored after the clamps of R12. -/
structure LpBlock where
  inUse : Byte
  control : Byte
  activityMode : Byte
  edge : Byte
  loadPolarity : Byte
  idleLimit : Half
  level : Byte
  leader : Byte
  runOn : Half
  leadTime : Half
  provides : Byte
  capacity : Half
  startSettle : Byte
  pairCount : Byte
  pair0 : RawPair
  pair1 : RawPair
  pair2 : RawPair
  inrush : Byte
  grantTimeout : Byte
  feedbackTimeout : Byte
  retries : Byte
  reportOnExhaust : Byte
  coastLimit : Half
  standstillThreshold : Byte
  standstillSamples : Byte
  startTimeout : Byte
  deriving DecidableEq, Repr

/-- The plan, services and load point records in force (R2, R14). -/
structure Configuration where
  plan : PlanBlock
  services : Vector ServiceBlock 12
  lps : Vector LpBlock 8
  deriving DecidableEq, Repr

/-- The station fields in force (R4). -/
structure StationFields where
  address : Option Byte
  statusInterval : Byte
  followPlantNight : Byte
  alertThreshold : Byte
  levels : Vector Byte 9
  deriving DecidableEq, Repr

/-- The object a structural error or a clamp is found in (R13). -/
inductive ImageObject where
  | station
  | plan
  | service (v : SvcId)
  | loadPoint (i : LpId)
  deriving DecidableEq, Repr

inductive ImageStatus where
  | good | goodClamped | rejected
  deriving DecidableEq, Repr

/-- What the loader does: it awaits a header, awaits the body whose header gave this sum, or has finished. -/
inductive LoaderPhase where
  | header
  | body (sum : Half)
  | done
  deriving DecidableEq, Repr

/-- The configuration loader (section 1.5). `warm` says the load is the re-read of a warm restart (R16), and
`replySeq` holds the request number of the RESTART that is answered at its outcome (R170). -/
structure Loader where
  phase : LoaderPhase
  failures : Nat
  warm : Bool
  replySeq : Option Byte
  status : Option ImageStatus
  clampCount : Nat
  firstClamped : Option (ImageObject × Nat)
  deriving DecidableEq, Repr

/-! ### Filtered input lines -/

/-- The filtered levels of one load point group; none until the filter's first level (R19, R65). -/
structure Lines where
  act : Option Bool
  run : Option Bool
  grant : Option Bool
  hand : Option Bool
  stoprb : Option Bool
  deriving DecidableEq, Repr

/-! ### Activity counters (R17) -/

inductive Sign where
  | plus | minus
  deriving DecidableEq, Repr

/-- One activity counter unit. Its mode is the activity_mode in force; `lastPosition` is the position at the
previous sample (R24). -/
structure ActUnit where
  count : BitVec 16
  loaded : Option Bool
  idle : Nat
  armed : Bool
  expiryReported : Bool
  lastDelta : BitVec 16
  lastPosition : BitVec 16
  lastSign : Option Sign
  dirFlag : Bool
  dirCount : Nat
  runCount : Nat
  coasting : Bool
  deriving DecidableEq, Repr

/-! ### Load point channels (R36) -/

inductive LpState where
  | unused | running | idleWatch | stopPending | stopRequested | coasting | stopped | startPending
  | starting | manual | excluded | lockout
  deriving DecidableEq, Repr

inductive StartCause where
  | wake | shortfall
  deriving DecidableEq, Repr

inductive LockoutKind where
  | none | soft | hard
  deriving DecidableEq, Repr

/-- The runtime record of one channel. -/
structure Chan where
  state : LpState
  stopT : Timer
  coastT : Timer
  overrun : Bool
  startT : Timer
  settleT : Timer
  runOnT : Timer
  runOnDone : Bool
  leadT : Timer
  surplusHeld : Bool
  cause : Option StartCause
  entryQueued : Bool
  retry : Nat
  recalls : Nat
  autoOff : Bool
  lockout : LockoutKind
  watch : Timer
  deriving DecidableEq, Repr

/-! ### Link controller (chapter 4) -/

/-- A frame the station sends: header and payload as fixed when it is handed (R69, R72). -/
structure Frame where
  kind : Byte
  source : Byte
  destination : Byte
  seq : Byte
  payload : List Byte
  deriving DecidableEq, Repr

/-- Which block handed a frame. A beacon carries whether its outcome hands an announcement (R90); a page
carries its number. -/
inductive Origin where
  | beacon (announce : Bool)
  | page (n : Nat)
  | intent
  | reply
  deriving DecidableEq, Repr

structure OutFrame where
  origin : Origin
  frame : Frame
  deriving DecidableEq, Repr

/-- Where the frame in progress stands: waiting for the line, on the line, waiting for the winning frame's end
or for an idle line before its backoff of so many slots starts, or backing off (R73 to R75). -/
inductive TxPhase where
  | waiting
  | sending
  | lostAwaitingEnd (slots : Nat)
  | lostAwaitingIdle (slots : Nat)
  | backingOff (t : Timer)
  deriving DecidableEq, Repr

structure Sending where
  out : OutFrame
  phase : TxPhase
  attempts : Nat
  deriving DecidableEq, Repr

/-- The seven link counters (R83). -/
structure LinkCounters where
  accepted : Nat
  crcErrors : Nat
  formatErrors : Nat
  lostContentions : Nat
  abandoned : Nat
  lateIntents : Nat
  missedRounds : Nat
  deriving DecidableEq, Repr

/-- The link controller. `pagesLeft` are the pages of the announcement being sent; the four `wait` fields are
the waiting set of R72. `lineIdle` says the line is idle (R67). `collecting` says the receive buffer collects a frame
on the line (R77), whose bytes reach the model whole, at its end (log entry 12). `awaitIdle` says the receiver
begins no frame before the line is idle again (R77). -/
structure Link where
  inProgress : Option Sending
  pagesLeft : List OutFrame
  waitIntent : Option OutFrame
  waitReply : Option OutFrame
  waitPages : List OutFrame
  waitBeacon : Option OutFrame
  abandonRun : Nat
  silence : Timer
  heard : Bool
  latch : Bool
  counters : LinkCounters
  lineIdle : Bool
  collecting : Bool
  awaitIdle : Bool
  deriving DecidableEq, Repr

/-! ### Peer table (chapter 5) -/

inductive Freshness where
  | fresh | stale
  deriving DecidableEq, Repr

inductive PlanState where
  | unchecked | matched | mismatched
  deriving DecidableEq, Repr

/-- One service figure held for a peer. -/
structure Figure where
  service : SvcId
  demand : Half
  capacity : Half
  deriving DecidableEq, Repr

/-- A partial announcement: its toggle, the plan block and the services taken so far. Page 1 is expected next
while four services are held, page 2 while eight are (R96). -/
structure Assembly where
  toggle : Byte
  next : Nat
  head : PlanBlock
  services : List ServiceBlock
  deriving DecidableEq, Repr

/-- One entry of the peer table (R91). `topAlert` is a class order 1 to 9 and a level. -/
structure PeerEntry where
  address : Byte
  freshness : Freshness
  planState : PlanState
  mode : Option BeaconMode
  night : Bool
  interval : Option Nat
  lastSeq : Option Byte
  missed : Nat
  age : Timer
  figures : List Figure
  topAlert : Option (Nat × Nat)
  viewOverflow : Bool
  isolated : Bool
  planHeard : Option Half
  lastToggle : Option Byte
  assembly : Option Assembly
  answerHold : Timer
  deriving DecidableEq, Repr

/-- The peer table. The view-overflow condition holds while `overflow` runs (R99). -/
structure PeerTable where
  entries : List PeerEntry
  overflow : Timer
  sharedHold : Timer
  deriving DecidableEq, Repr

/-! ### Balance calculator (R104); its three figures are functions of the state (R108) -/

structure SvcBalance where
  timer : Timer
  confirmed : Bool
  inForce : Bool
  deriving DecidableEq, Repr

structure ProvBalance where
  timer : Timer
  established : Bool
  reported : Bool
  deriving DecidableEq, Repr

/-! ### Round evaluator (chapter 7) -/

inductive Action where
  | stop | start
  deriving DecidableEq, Repr

inductive Cause where
  | night | wake | shortfall
  deriving DecidableEq, Repr

/-- A round entry less its station address (R119). -/
structure Entry where
  lp : LpId
  action : Action
  cause : Cause
  level : Nat
  provides : Option SvcId
  capacity : Nat
  inrush : Nat
  demands : List (SvcId × Nat)
  deriving DecidableEq, Repr

/-- An entry of the own intent queue. `serial` tells one posting from any other (R120). -/
structure QueueEntry where
  serial : Nat
  entry : Entry
  deriving DecidableEq, Repr

/-- An entry of a round list; `own` is the serial of the queue entry it was sent from. -/
structure ListEntry where
  station : Byte
  entry : Entry
  own : Option Nat
  deriving DecidableEq, Repr

/-- The outcome of an entry with its reason (R130 to R136). -/
inductive EntryOutcome where
  | granted | deferred | skippedDemand | skippedNotNeeded | deniedCapacity | deniedService | deniedView
  deriving DecidableEq, Repr

inductive RoundPhase where
  | closed | opened | guarding
  deriving DecidableEq, Repr

/-- The last-round record (R136). -/
structure LastRound where
  closeTime : BitVec 32
  budget : Nat
  used : Nat
  heard : Nat
  refused : Nat
  doubtful : Bool
  isolated : Bool
  viewOverflow : Bool
  entries : List (ListEntry × EntryOutcome)
  deriving DecidableEq, Repr

/-- The round evaluator. `outstanding` are the entries carried by an INTENT frame that awaits its outcome. -/
structure Round where
  phase : RoundPhase
  window : Timer
  guardT : Timer
  list : List ListEntry
  heard : Nat
  refused : Nat
  join : Bool
  doubtful : Bool
  queue : List QueueEntry
  nextSerial : Nat
  outstanding : Option (List QueueEntry)
  last : Option LastRound
  deriving DecidableEq, Repr

/-! ### Mode controller (R141); the night signal is a function of the state (R146) -/

inductive StationState where
  | passive | listenIn | active | addressConflict
  deriving DecidableEq, Repr

inductive PlantMode where
  | day | night | wake
  deriving DecidableEq, Repr

/-- The mode controller's record; the station state is none until the power-on load decides it (R143). -/
structure ModeCtl where
  station : Option StationState
  plant : PlantMode
  isolated : Bool
  nightLevel : Option Bool
  listenIn : Timer
  beaconT : Timer
  seq : BitVec 8
  toggle : Bool
  deriving DecidableEq, Repr

/-! ### Fault and alert unit (chapter 9) -/

inductive FaultCode where
  | grantRefused | stopNotSeen | startNotSeen | coastOverrun | outputStuck
  | imageMissing | imageFormat | imageSum
  | imageStructure (sub : Nat) (object : ImageObject)
  | clamped
  deriving DecidableEq, Repr

/-- The state named by a record's first fault (R154). -/
inductive FaultState where
  | lp (st : LpState)
  | startUp
  | passive
  deriving DecidableEq, Repr

structure FaultRecord where
  valid : Bool
  first : Option FaultCode
  firstTime : BitVec 32
  stateAt : Option FaultState
  locking : Bool
  last : Option FaultCode
  further : Nat
  overflow : Bool
  deriving DecidableEq, Repr

/-- The nine event classes in class order (R159). -/
inductive EventClass where
  | lpFault | outputStuck | addressConflict | planMismatch | configFault | isolated | viewOverflow
  | recalled | exhausted
  deriving DecidableEq, Repr

/-- The nine records, the nine flags (bit i − 1 for the class of order i) and the uptime. ALERT and the top
alert are functions of the state (R160, R161). -/
structure FaultUnit where
  lps : Vector FaultRecord 8
  station : FaultRecord
  flags : BitVec 9
  uptime : BitVec 32
  deriving DecidableEq, Repr

/-! ### The whole station -/

/-- The station, and the commands that wait for it, first in first out. -/
structure State where
  loader : Loader
  station : StationFields
  config : Option Configuration
  lines : Vector Lines 8
  units : Vector ActUnit 8
  chans : Vector Chan 8
  link : Link
  peers : PeerTable
  svcs : Vector SvcBalance 12
  provs : Vector ProvBalance 8
  round : Round
  mode : ModeCtl
  faults : FaultUnit
  pending : List Instr
  deriving DecidableEq, Repr

/-- No command faults: the spec gives every event an effect in every state, so this type has no constructor and
a faulting step cannot be written. -/
inductive Fault where
  deriving DecidableEq, Repr

/-- `notModelled`: raised by an arm of `exec` for a command without a meaning; no arm raises it in this model.
Safe: it stops where the hardware goes on. -/
inductive Refusal where
  | notModelled (mnemonic : String)
  deriving DecidableEq, Repr

/-! ### Updates of one block -/

def State.withLoader (s : State) (x : Loader) : State := { s with loader := x }
def State.withStation (s : State) (x : StationFields) : State := { s with station := x }
def State.withConfig (s : State) (x : Option Configuration) : State := { s with config := x }
def State.withLines (s : State) (x : Vector Lines 8) : State := { s with lines := x }
def State.withUnits (s : State) (x : Vector ActUnit 8) : State := { s with units := x }
def State.withChans (s : State) (x : Vector Chan 8) : State := { s with chans := x }
def State.withLink (s : State) (x : Link) : State := { s with link := x }
def State.withPeers (s : State) (x : PeerTable) : State := { s with peers := x }
def State.withSvcs (s : State) (x : Vector SvcBalance 12) : State := { s with svcs := x }
def State.withProvs (s : State) (x : Vector ProvBalance 8) : State := { s with provs := x }
def State.withRound (s : State) (x : Round) : State := { s with round := x }
def State.withMode (s : State) (x : ModeCtl) : State := { s with mode := x }
def State.withFaults (s : State) (x : FaultUnit) : State := { s with faults := x }
def State.withPending (s : State) (x : List Instr) : State := { s with pending := x }

/-! ### Values at power-on -/

/-- An unused load point's record: every byte 0. -/
def LpBlock.blank : LpBlock :=
  { inUse := 0, control := 0, activityMode := 0, edge := 0, loadPolarity := 0, idleLimit := 0, level := 0,
    leader := 0, runOn := 0, leadTime := 0, provides := 0, capacity := 0, startSettle := 0, pairCount := 0,
    pair0 := ⟨0, 0⟩, pair1 := ⟨0, 0⟩, pair2 := ⟨0, 0⟩, inrush := 0, grantTimeout := 0, feedbackTimeout := 0,
    retries := 0, reportOnExhaust := 0, coastLimit := 0, standstillThreshold := 0, standstillSamples := 0,
    startTimeout := 0 }

/-- An unused service record as R1 holds it. -/
def serviceBlank : ServiceBlock := { inUse := 0, margin := 0, cmin := 0, surplusHold := 0, shortfallConfirm := 0 }

/-- The defaults of R4 and R159, in force while the station has no usable station block. -/
def StationFields.default : StationFields :=
  { address := none, statusInterval := 2, followPlantNight := 0, alertThreshold := 4,
    levels := #v[5, 7, 6, 6, 6, 4, 3, 1, 2] }

/-- No filter has a level yet (R19, R65). -/
def Lines.reset : Lines := { act := none, run := none, grant := none, hand := none, stoprb := none }

/-- The cleared values of R18. -/
def ActUnit.cleared : ActUnit :=
  { count := 0, loaded := none, idle := 0, armed := false, expiryReported := false, lastDelta := 0,
    lastPosition := 0, lastSign := none, dirFlag := false, dirCount := 0, runCount := 0, coasting := false }

/-- The power-on values of R36 in the given state and with the given retry count. -/
def Chan.powerOn (state : LpState) (retry : Nat) : Chan :=
  { state, stopT := .off, coastT := .off, overrun := false, startT := .off, settleT := .off, runOnT := .off,
    runOnDone := false, leadT := .off, surplusHeld := false, cause := none, entryQueued := false, retry,
    recalls := 0, autoOff := false, lockout := .none, watch := .off }

def LinkCounters.zero : LinkCounters :=
  { accepted := 0, crcErrors := 0, formatErrors := 0, lostContentions := 0, abandoned := 0, lateIntents := 0,
    missedRounds := 0 }

/-- The power-on values of R84; the line is not taken as idle until it has been seen idle (log entry 6). -/
def Link.reset : Link :=
  { inProgress := none, pagesLeft := [], waitIntent := none, waitReply := none, waitPages := [],
    waitBeacon := none, abandonRun := 0, silence := .off, heard := false, latch := false,
    counters := LinkCounters.zero, lineIdle := false, collecting := false, awaitIdle := false }

/-- R103. -/
def PeerTable.reset : PeerTable := { entries := [], overflow := .off, sharedHold := .off }

/-- R117. -/
def SvcBalance.clear : SvcBalance := { timer := .off, confirmed := false, inForce := false }
def ProvBalance.clear : ProvBalance := { timer := .off, established := false, reported := false }

/-- R140. -/
def Round.reset : Round :=
  { phase := .closed, window := .off, guardT := .off, list := [], heard := 0, refused := 0, join := false,
    doubtful := false, queue := [], nextSerial := 0, outstanding := none, last := none }

/-- R154. -/
def FaultRecord.clear : FaultRecord :=
  { valid := false, first := none, firstTime := 0, stateAt := none, locking := false, last := none,
    further := 0, overflow := false }

/-- The station right after the release of RESETN, with the loader about to read the image header (R10, R141). -/
def State.reset : State :=
  { loader := { phase := .header, failures := 0, warm := false, replySeq := none, status := none,
                clampCount := 0, firstClamped := none }
    station := StationFields.default
    config := none
    lines := Vector.replicate 8 Lines.reset
    units := Vector.replicate 8 ActUnit.cleared
    chans := Vector.replicate 8 (Chan.powerOn .unused 0)
    link := Link.reset
    peers := PeerTable.reset
    svcs := Vector.replicate 12 SvcBalance.clear
    provs := Vector.replicate 8 ProvBalance.clear
    round := Round.reset
    mode := { station := none, plant := .day, isolated := false, nightLevel := none, listenIn := .off,
              beaconT := .off, seq := 0, toggle := false }
    faults := { lps := Vector.replicate 8 FaultRecord.clear, station := FaultRecord.clear, flags := 0, uptime := 0 }
    pending := [] }

end Sys2Proof.Machine
end

