-- ==== Sys2Proof/Machine/Operands.lean ====
section
/-! DEFINITION. How the bytes of the image and of a received payload are read for their meaning (R5 to R9, R119,
R172): the accessors every meaning reads the configuration through, and the forms of a received frame's fields. -/

namespace Sys2Proof.Machine

/-! ### Bytes and multi-byte fields, least significant byte first (chapter 11) -/

/-- The byte at an offset; 0 past the end. -/
def byteAt (p : List Byte) (k : Nat) : Byte := p.getD k 0

/-- The two-byte field at an offset. -/
def halfAt (p : List Byte) (k : Nat) : Half := byteAt p (k + 1) ++ byteAt p k

/-- `w` bytes of a number, least significant first. -/
def le : Nat → Nat → List Byte
  | 0, _ => []
  | w + 1, n => BitVec.ofNat 8 n :: le w (n / 256)

/-- `w` bytes of a value, or all ones while it is absent, none or not running (chapter 11). -/
def leOpt (w : Nat) : Option Nat → List Byte
  | some n => le w n
  | none => List.replicate w 255

/-- A mark as one byte: 1 for set or yes. -/
def markByte (b : Bool) : Byte := if b then 1 else 0

/-- A marks field: bit k is the k-th mark of the list. -/
def marksOf : List Bool → Nat
  | [] => 0
  | b :: bs => (if b then 1 else 0) + 2 * marksOf bs

/-! ### Indices -/

def lpOfByte (b : Byte) : Option LpId := if h : b.toNat < 8 then some ⟨b.toNat, h⟩ else none
def svcOfByte (b : Byte) : Option SvcId := if h : b.toNat < 12 then some ⟨b.toNat, h⟩ else none

/-- The bit of a load point mask (section 11.3: bit n for LPn). -/
def maskBit (m : Byte) (i : LpId) : Bool := m.getLsbD i.val

/-- A mask with the bits of the listed load points. -/
def maskOf (is : List LpId) : Byte := is.foldl (fun m i => m ||| ((1 : Byte) <<< i.val)) 0

/-- The partner of R6: n + 1 for an even n, n − 1 for an odd n. -/
def partner (i : LpId) : LpId := if i.val % 2 = 0 then i + 1 else i - 1

/-! ### Fields of a load point record -/

inductive ActMode where
  | none | stroke | loadLevel | rotation | paired
  deriving DecidableEq, Repr

def ActMode.ofByte (b : Byte) : ActMode :=
  match b.toNat with
  | 1 => .stroke
  | 2 => .loadLevel
  | 3 => .rotation
  | 4 => .paired
  | _ => .none

/-- Whether an edge of ACTn to the given level is one the edge field selects (R20): RISING 0, FALLING 1, BOTH 2. -/
def edgeSelected (edge : Byte) (high : Bool) : Bool :=
  match edge.toNat with
  | 0 => high
  | 1 => !high
  | _ => true

/-- The reading of ACTn through load_polarity (R21): HIGH_LOADED 0, LOW_LOADED 1. -/
def loadedReading (polarity : Byte) (high : Bool) : Bool := if polarity == 1 then !high else high

def LpBlock.isInUse (b : LpBlock) : Bool := b.inUse == 1
/-- HANDSHAKE 0, DIRECT 1 (R5). -/
def LpBlock.isHandshake (b : LpBlock) : Bool := b.control == 0
def LpBlock.mode (b : LpBlock) : ActMode := ActMode.ofByte b.activityMode
def LpBlock.leaderOf (b : LpBlock) : Option LpId := lpOfByte b.leader
def LpBlock.providesOf (b : LpBlock) : Option SvcId := svcOfByte b.provides
def LpBlock.pairs (b : LpBlock) : List RawPair := [b.pair0, b.pair1, b.pair2].take b.pairCount.toNat
/-- The demands list with the pair count the image gives (R8). -/
def LpBlock.demands (b : LpBlock) : List (SvcId × Nat) :=
  b.pairs.filterMap fun p => (svcOfByte p.service).map fun v => (v, p.units.toNat)

/-! ### The configuration in force -/

/-- The record of LPn in force; an unused one while no configuration is held. -/
def State.block (s : State) (i : LpId) : LpBlock :=
  match s.config with
  | some c => c.lps[i]
  | none => LpBlock.blank

def State.svcBlock (s : State) (v : SvcId) : ServiceBlock :=
  match s.config with
  | some c => c.services[v]
  | none => serviceBlank

def State.inUse (s : State) (i : LpId) : Bool := (s.block i).isInUse
def State.svcInUse (s : State) (v : SvcId) : Bool := (s.svcBlock v).inUse == 1

/-- The leader of a follower; none for a load point that is unused or follows none (R7). -/
def State.leader (s : State) (i : LpId) : Option LpId := if s.inUse i then (s.block i).leaderOf else none
def State.isFollower (s : State) (i : LpId) : Bool := (s.leader i).isSome
def State.followers (s : State) (i : LpId) : List LpId := lpIds.filter fun j => s.leader j == some i
def State.isLeader (s : State) (i : LpId) : Bool := !(s.followers i).isEmpty

/-- The service an in-use load point provides (R8). -/
def State.provided (s : State) (i : LpId) : Option SvcId := if s.inUse i then (s.block i).providesOf else none
def State.isProvider (s : State) (i : LpId) : Bool := (s.provided i).isSome
def State.level (s : State) (i : LpId) : Nat := (s.block i).level.toNat

/-- The mode of a unit, from activity_mode (R17); NONE for the unit of an unused load point, whose stored
activity_mode does not apply (R9; log entry 37). -/
def State.unitMode (s : State) (i : LpId) : ActMode := if s.inUse i then (s.block i).mode else .none

/-- The reload value of the idle timer (R17, R28). -/
def State.reload (s : State) (i : LpId) : Nat :=
  if s.unitMode i = .paired then (s.block (partner i)).idleLimit.toNat else (s.block i).idleLimit.toNat

/-! ### Filtered lines as the channel reads them (R65) -/

def State.runPresent (s : State) (i : LpId) : Bool := s.lines[i].run.getD false
def State.grantPresent (s : State) (i : LpId) : Bool := s.lines[i].grant.getD false
def State.handPresent (s : State) (i : LpId) : Bool := s.lines[i].hand.getD false

/-! ### Durations, in microseconds -/

def seconds (n : Nat) : Nat := n * 1000000
def millis (n : Nat) : Nat := n * 1000
/-- A timer started at a duration. -/
def startAt (us : Nat) : Timer := .running us

def State.statusSecs (s : State) : Nat := s.station.statusInterval.toNat
/-- 4 × status_interval (R4). -/
def State.isolationUs (s : State) : Nat := seconds (4 * s.statusSecs)
/-- The longer of 8 s and 4 × status_interval (R144). -/
def State.listenInUs (s : State) : Nat := seconds (max 8 (4 * s.statusSecs))

def Timer.isRunning : Timer → Bool
  | .running _ => true
  | _ => false

/-- A timer's remaining time in whole seconds, as the tables carry it (log entry 5). -/
def Timer.secsLeft : Timer → Option Nat
  | .off => none
  | .running us => some ((us + 999999) / 1000000)
  | .expired => some 0

/-- A timer's remaining time in milliseconds. -/
def Timer.millisLeft : Timer → Option Nat
  | .off => none
  | .running us => some ((us + 999) / 1000)
  | .expired => some 0

/-- The whole seconds a surplus or shortfall timer has run (R116); one that has expired has run its full time (log
entry 24). -/
def Timer.secsRun (full : Nat) : Timer → Option Nat
  | .off => none
  | .running us => some (us / 1000000)
  | .expired => some full

/-! ### Round entries (R119) -/

/-- The entry a channel posts, from the configuration in force (R41, R52). -/
def State.ownEntry (s : State) (i : LpId) (action : Action) (cause : Cause) : Entry :=
  { lp := i, action, cause, level := s.level i, provides := s.provided i,
    capacity := if s.isProvider i then (s.block i).capacity.toNat else 0,
    inrush := (s.block i).inrush.toNat, demands := (s.block i).demands }

def StartCause.asCause : StartCause → Cause
  | .wake => .wake
  | .shortfall => .shortfall

def actionOf (b : Byte) : Option Action :=
  match b.toNat with
  | 0 => some .stop
  | 1 => some .start
  | _ => none

def causeOf (b : Byte) : Option Cause :=
  match b.toNat with
  | 0 => some .night
  | 1 => some .wake
  | 2 => some .shortfall
  | _ => none

/-- The cause fits the action (R119). -/
def causeFits : Action → Cause → Bool
  | .stop, .night => true
  | .start, .wake => true
  | .start, .shortfall => true
  | _, _ => false

/-- A provided service field: S0 to S11, or none (255); any other value is outside the field. -/
def providesField (b : Byte) : Option (Option SvcId) :=
  if b == 255 then some none else (svcOfByte b).map some

def rawPairs (e : RawEntry) : List RawPair := [e.pair0, e.pair1, e.pair2].take e.pairCount.toNat

/-- The demand pairs of a received entry, when the count and every pair lie in the values of R119. -/
def rawDemands (e : RawEntry) : Option (List (SvcId × Nat)) :=
  let ds := (rawPairs e).filterMap fun p =>
    if p.units == 0 then none else (svcOfByte p.service).map fun v => (v, p.units.toNat)
  if e.pairCount.toNat ≤ 3 ∧ ds.length = (rawPairs e).length ∧ (ds.map Prod.fst).Nodup then some ds else none

/-- A received entry, when it is well formed (R119, R128). R119 announces five further conditions and states four,
which are the ones tested: an entry that provides no service may carry any capacity (log entry 34). -/
def rawToEntry (e : RawEntry) : Option Entry :=
  match lpOfByte e.lp, actionOf e.action, causeOf e.cause, providesField e.provides, rawDemands e with
  | some lp, some action, some cause, some provides, some demands =>
    if causeFits action cause ∧ 1 ≤ e.level.toNat ∧ e.level.toNat ≤ 7 ∧ e.capacity.toNat ≤ 4000 ∧
        (action = .stop → provides.isSome) ∧ (provides.isSome → 1 ≤ e.capacity.toNat) then
      some { lp, action, cause, level := e.level.toNat, provides, capacity := e.capacity.toNat,
             inrush := e.inrush.toNat, demands }
    else none
  | _, _, _, _, _ => none

/-! ### Items of a received beacon (R94, R172) -/

def rawToFigure (f : RawFigure) : Option Figure :=
  (svcOfByte f.service).map fun v => { service := v, demand := f.demand, capacity := f.capacity }

/-- The figure list, unless it names a service above S11 or names one twice (R94). -/
def figuresOf (fs : List RawFigure) : Option (List Figure) :=
  let xs := fs.filterMap rawToFigure
  if xs.length = fs.length ∧ (xs.map Figure.service).Nodup then some xs else none

/-- An interval outside 1 to 10 s is taken as the nearer limit (R94). -/
def intervalOf (b : Byte) : Nat := max 1 (min 10 b.toNat)

/-- The top alert byte: class 0, and a class above 9, are none (R172). -/
def topAlertOf (cls : BitVec 4) (lvl : BitVec 3) : Option (Nat × Nat) :=
  if 1 ≤ cls.toNat ∧ cls.toNat ≤ 9 then some (cls.toNat, lvl.toNat) else none

def pageServices (p : PageServices) : List ServiceBlock := [p.s0, p.s1, p.s2, p.s3]

end Sys2Proof.Machine
end

