-- ==== Sys2Proof/Machine/Flags.lean ====
section
/-! DEFINITION. Flags and outputs that are functions of the state: the alert flags, ALERT and the top alert
(R159 to R161), the stop requests and counting sets of a channel state (R37, R38), and the night signal (R146). -/

namespace Sys2Proof.Machine

/-! ### Alert flags -/

def EventClass.index : EventClass → Fin 9
  | .lpFault => 0
  | .outputStuck => 1
  | .addressConflict => 2
  | .planMismatch => 3
  | .configFault => 4
  | .isolated => 5
  | .viewOverflow => 6
  | .recalled => 7
  | .exhausted => 8

/-- The nine classes in class order (R159). -/
def eventClasses : List EventClass :=
  [.lpFault, .outputStuck, .addressConflict, .planMismatch, .configFault, .isolated, .viewOverflow, .recalled,
   .exhausted]

def EventClass.bit (c : EventClass) : BitVec 9 := (1 : BitVec 9) <<< c.index.val

def State.flagSet (s : State) (c : EventClass) : Bool := s.faults.flags.getLsbD c.index.val
def State.classLevel (s : State) (c : EventClass) : Nat := s.station.levels[c.index].toNat

/-- Set the flag of a class (R159). -/
def State.raise (s : State) (c : EventClass) : State :=
  s.withFaults { s.faults with flags := s.faults.flags ||| c.bit }

/-- ALERT: some set flag has a class level at or above alert_threshold (R160). -/
def State.alertAsserted (s : State) : Bool :=
  eventClasses.any fun c => s.flagSet c && decide (s.station.alertThreshold.toNat ≤ s.classLevel c)

/-- The better of the top alert so far and a class later in the order: the later one must be higher (R161). -/
def topOf (s : State) (best : Option (EventClass × Nat)) (c : EventClass) : Option (EventClass × Nat) :=
  if s.flagSet c then
    match best with
    | none => some (c, s.classLevel c)
    | some (b, l) => if l < s.classLevel c then some (c, s.classLevel c) else some (b, l)
  else best

/-- The set flag of the highest class level, the first in class order among equals; none while no flag is set
(R161). -/
def State.topAlert (s : State) : Option (EventClass × Nat) := eventClasses.foldl (topOf s) none

/-! ### What a channel state means -/

/-- The four states in which STOPn is asserted (R37). -/
def LpState.stopAsserted : LpState → Bool
  | .stopRequested | .coasting | .stopped | .startPending => true
  | _ => false

/-- The demand-counting set (R38). -/
def LpState.countsDemand : LpState → Bool
  | .unused | .stopped | .startPending => false
  | _ => true

/-- The capacity-counting set, RUNn apart (R38). -/
def LpState.countsCapacity : LpState → Bool
  | .running | .idleWatch | .stopPending | .manual | .excluded | .lockout => true
  | _ => false

/-- The states that hold the plant mode in WAKE (R145, R147). -/
def LpState.holdsWake : LpState → Bool
  | .stopRequested | .coasting | .stopped | .startPending | .starting => true
  | _ => false

/-- The level of STOPn (R37); the commanded level of the read-back watch (R59). -/
def State.stopLine (s : State) (i : LpId) : Bool := s.chans[i].state.stopAsserted

/-- Some in-use channel is in STOP_REQUESTED, COASTING, STOPPED, START_PENDING or STARTING. -/
def State.anyHeld (s : State) : Bool := lpIds.any fun i => s.inUse i && s.chans[i].state.holdsWake

/-! ### Station state and night -/

def State.listening (s : State) : Bool := s.mode.station == some .listenIn
def State.isActive (s : State) : Bool := s.mode.station == some .active
def State.inConflict (s : State) : Bool := s.mode.station == some .addressConflict
/-- The plant mode governs the station: ACTIVE or ADDRESS_CONFLICT (R141). -/
def State.deciding (s : State) : Bool := s.isActive || s.inConflict
/-- The station beacons: LISTEN_IN or ACTIVE. -/
def State.beaconing (s : State) : Bool := s.listening || s.isActive
/-- The channels may take automatic steps of the night (R39, R64). -/
def State.nightWork (s : State) : Bool := s.deciding && s.mode.plant == .night

/-- A FRESH, MATCHED peer shows its night flag asserted (R100). -/
def State.peerNight (s : State) : Bool :=
  s.peers.entries.any fun e => e.freshness == .fresh && e.planState == .matched && e.night

/-- The night signal (R146); it stays released in PASSIVE and before the load's outcome (R143). -/
def State.nightSignal (s : State) : Bool :=
  match s.mode.station with
  | some .listenIn | some .active =>
    s.mode.nightLevel.getD false || (s.station.followPlantNight == 1 && s.peerNight)
  | some .addressConflict => s.mode.nightLevel.getD false
  | _ => false

/-- The view-overflow condition holds while the overflow timer runs (R99). -/
def State.viewOverflow (s : State) : Bool := s.peers.overflow.isRunning

/-- Local stagger is in use (R137). -/
def State.staggering (s : State) : Bool := (s.isActive && s.mode.isolated) || s.inConflict

end Sys2Proof.Machine
end

