-- ==== Sys2Proof/Machine/Balance.lean ====
section
/-! DEFINITION. The balance calculator's figures and conditions (chapter 6), as functions of the inputs as they
stand: R108 keeps the figures at exactly these values in every event. -/

namespace Sys2Proof.Machine

/-- The item a peer entry's list holds for a service, if any. -/
def PeerEntry.figure (e : PeerEntry) (v : SvcId) : Option Figure := e.figures.find? fun f => f.service == v

/-- The units a load point names for a service. -/
def LpBlock.unitsFor (b : LpBlock) (v : SvcId) : Nat := ((b.demands.filter fun d => d.1 == v).map Prod.snd).sum

/-- The station's own demand on a service (R87, R105). -/
def State.ownDemand (s : State) (v : SvcId) : Nat :=
  (lpIds.map fun i =>
    if s.inUse i && s.chans[i].state.countsDemand then (s.block i).unitsFor v else 0).sum

/-- The station's own running capacity of a service (R87, R106). -/
def State.ownCapacity (s : State) (v : SvcId) : Nat :=
  (lpIds.map fun i =>
    if s.provided i == some v && s.chans[i].state.countsCapacity && s.runPresent i then
      (s.block i).capacity.toNat else 0).sum

/-- The peers' demand: every entry counts, whatever its freshness and plan state (R100, R105). -/
def State.peerDemand (s : State) (v : SvcId) : Nat :=
  (s.peers.entries.map fun e => ((e.figure v).map fun f => f.demand.toNat).getD 0).sum

/-- The peers' capacity: FRESH and MATCHED entries only (R100, R106). -/
def State.peerCapacity (s : State) (v : SvcId) : Nat :=
  (s.peers.entries.map fun e =>
    if e.freshness == .fresh && e.planState == .matched then
      ((e.figure v).map fun f => f.capacity.toNat).getD 0 else 0).sum

/-- D(s) (R105). -/
def State.demand (s : State) (v : SvcId) : Nat := min 65535 (s.ownDemand v + s.peerDemand v)

/-- C(s) (R106). -/
def State.capacity (s : State) (v : SvcId) : Nat := min 65535 (s.ownCapacity v + s.peerCapacity v)

/-- max(Cmin, ⌈demand × (100 + margin) / 100⌉), formed exactly (R107, R131). -/
def requiredFor (cmin margin demand : Nat) : Nat := max cmin ((demand * (100 + margin) + 99) / 100)

/-- R(s) (R107). -/
def State.required (s : State) (v : SvcId) : Nat :=
  requiredFor (s.svcBlock v).cmin.toNat (s.svcBlock v).margin.toNat (s.demand v)

/-- The shortfall condition of a service in use (R112). -/
def State.shortOf (s : State) (v : SvcId) : Bool := s.svcInUse v && decide (s.capacity v < s.required v)

/-- The shortfall timers run in LISTEN_IN, ACTIVE and ADDRESS_CONFLICT (R112). -/
def State.shortWatched (s : State) : Bool := s.listening || s.deciding

/-- The calculator assesses surplus (R109). -/
def State.assessing (s : State) : Bool :=
  s.isActive && s.mode.plant == .night && !s.mode.isolated && !s.viewOverflow

/-- The surplus condition of a provider (R109). -/
def State.surplusOf (s : State) (i : LpId) : Bool :=
  match s.provided i with
  | some v => decide ((s.block i).capacity.toNat + s.required v ≤ s.capacity v)
  | none => false

/-- The confirmed shortfall of the service a load point provides (R54). -/
def State.ownShortfall (s : State) (i : LpId) : Bool :=
  match s.provided i with
  | some v => s.svcs[v].confirmed
  | none => false

/-- The shortfall of the service a load point provides is in force (R113). -/
def State.ownShortInForce (s : State) (i : LpId) : Bool :=
  match s.provided i with
  | some v => s.svcs[v].inForce
  | none => false

def State.setSvc (s : State) (v : SvcId) (b : SvcBalance) : State := s.withSvcs (s.svcs.set v b)
def State.setProv (s : State) (i : LpId) (b : ProvBalance) : State := s.withProvs (s.provs.set i b)

end Sys2Proof.Machine
end

