-- ==== Sys2Proof/Machine/Ops.lean ====
section
/-! DEFINITION. The named operations every meaning is made of: fault reports, the own intent queue, and the one
operation by which a channel enters a state (chapter 3). -/

namespace Sys2Proof.Machine

def State.setChan (s : State) (i : LpId) (c : Chan) : State := s.withChans (s.chans.set i c)
def State.setUnit (s : State) (i : LpId) (u : ActUnit) : State := s.withUnits (s.units.set i u)
def State.setLines (s : State) (i : LpId) (l : Lines) : State := s.withLines (s.lines.set i l)

/-! ### Faults (R154 to R158) -/

/-- A report reaching a record: the first capture, or the tally of a later fault (R155). -/
def FaultRecord.report (r : FaultRecord) (code : FaultCode) (time : BitVec 32) (at_ : FaultState)
    (locking : Bool) : FaultRecord :=
  if r.valid then { r with last := some code, further := satSucc 255 r.further, overflow := true }
  else { valid := true, first := some code, firstTime := time, stateAt := some at_, locking, last := none,
         further := 0, overflow := false }

/-- A load point fault: recorded with the state in which the channel found it, and LP_FAULT set (R156, R159). -/
def reportLp (i : LpId) (code : FaultCode) (locking : Bool) (s : State) : State :=
  (s.withFaults { s.faults with
    lps := s.faults.lps.set i
      (s.faults.lps[i].report code s.faults.uptime (.lp s.chans[i].state) locking) }).raise .lpFault

/-- A fault of a load: recorded in the station record, and CONFIG_FAULT set (R14, R157, R159). -/
def reportLoad (code : FaultCode) (s : State) : State :=
  (s.withFaults { s.faults with
    station := s.faults.station.report code s.faults.uptime (if s.loader.warm then .passive else .startUp)
      false }).raise .configFault

/-! ### The own intent queue (R120) -/

/-- Level descending, then load point ascending. -/
def queuedBefore (a b : Entry) : Bool := decide (b.level < a.level) || (a.level == b.level && decide (a.lp < b.lp))

/-- Enter an entry at its place. -/
def insertQueued (q : QueueEntry) : List QueueEntry → List QueueEntry
  | [] => [q]
  | x :: xs => if queuedBefore q.entry x.entry then q :: x :: xs else x :: insertQueued q xs

/-- The queue without the load point's entry. -/
def dropQueued (i : LpId) (q : List QueueEntry) : List QueueEntry := q.filter fun x => x.entry.lp != i

/-- Withdraw the load point's entry; nothing changes when it has none. -/
def withdraw (i : LpId) (s : State) : State :=
  (s.withRound { s.round with queue := dropQueued i s.round.queue }).setChan i
    { s.chans[i] with entryQueued := false }

/-- Post an entry of the load point, replacing the one it has (R41, R52, R120). -/
def post (i : LpId) (action : Action) (cause : Cause) (s : State) : State :=
  (s.withRound { s.round with
    queue := insertQueued { serial := s.round.nextSerial, entry := s.ownEntry i action cause }
      (dropQueued i s.round.queue)
    nextSerial := s.round.nextSerial + 1 }).setChan i { s.chans[i] with entryQueued := true }

/-- The entry is carried in an INTENT frame that awaits its outcome, or stands in the list of an OPEN round. -/
def Round.committed (r : Round) (serial : Nat) : Bool :=
  (match r.outstanding with
   | some qs => qs.any fun q => q.serial == serial
   | none => false) ||
  (r.phase == .opened && r.list.any fun e => e.own == some serial)

/-! ### The read-back watch (R59) -/

/-- The watch as it begins afresh against a commanded level: running from 200 ms while the read-back disagrees. -/
def freshWatch (kind : LockoutKind) (readBack : Option Bool) (commanded : Bool) : Timer :=
  match kind, readBack with
  | .hard, _ => .off
  | _, none => .off
  | _, some l => if l == commanded then .off else startAt (millis 200)

/-- The watch after a change of the read-back: it keeps running while the two still disagree. -/
def judgedWatch (c : Chan) (readBack : Option Bool) : Timer :=
  match freshWatch c.lockout readBack c.state.stopAsserted with
  | .running us => if c.watch.isRunning then c.watch else .running us
  | t => t

/-! ### Entering a channel state -/

/-- What the entry into a state starts (R42, R44, R46, R48, R52, R55). -/
def entryFields (s : State) (i : LpId) (cause : Option StartCause) (st : LpState) (c : Chan) : Chan :=
  let b := s.block i
  match st with
  | .stopRequested =>
    { c with stopT := startAt (seconds (if b.isHandshake then b.grantTimeout.toNat else b.feedbackTimeout.toNat)) }
  | .coasting => { c with coastT := startAt (seconds b.coastLimit.toNat) }
  | .stopPending =>
    if s.isFollower i then
      if b.runOn = 0 then { c with runOnDone := true }
      else { c with runOnT := startAt (seconds b.runOn.toNat) }
    else c
  | .startPending => { c with cause := cause }
  | .starting =>
    if s.runPresent i then { c with settleT := startAt (seconds b.startSettle.toNat) }
    else { c with startT := startAt (seconds b.startTimeout.toNat) }
  | _ => c

/-- The record of a channel in a state with nothing running: what every exit cancels and clears (the table notes
of R36). Retry and recall counts, auto-off mark, lockout kind and watch stay. -/
def Chan.moved (c : Chan) (st : LpState) : Chan :=
  { Chan.powerOn st c.retry with
    recalls := c.recalls, autoOff := c.autoOff, lockout := c.lockout, watch := c.watch }

/-- What the unit does as its channel enters a state: it arms and reloads on entry into IDLE_WATCH, disarms on
exit, and follows COASTING with the run count at 0 (R18, R27, R30). -/
def ActUnit.follow (u : ActUnit) (st : LpState) (rotation : Bool) (reload : Nat) : ActUnit :=
  if st = .idleWatch then
    { u with armed := true, idle := reload, expiryReported := false, coasting := false, runCount := 0,
             dirFlag := u.dirFlag && !rotation }
  else { u with armed := false, coasting := decide (st = .coasting), runCount := 0 }

/-- A channel enters a state: its entry is withdrawn, its timers and marks are cancelled and cleared, those of
the new state start, the watch begins afresh when the commanded level changes, the unit follows, and a surplus
reported to a channel that leaves STOP_PENDING is no longer reported (R37, R43, R59, R111). -/
def enterFor (cause : Option StartCause) (i : LpId) (st : LpState) (s : State) : State :=
  let old := s.chans[i]
  let c := entryFields s i cause st (old.moved st)
  let watch := if old.state.stopAsserted = st.stopAsserted then old.watch
    else freshWatch old.lockout s.lines[i].stoprb st.stopAsserted
  let p := s.provs[i]
  (((s.withRound { s.round with queue := dropQueued i s.round.queue }).setChan i { c with watch }).setUnit i
    (s.units[i].follow st (s.unitMode i = .rotation) (s.reload i))).setProv i
    { p with reported := p.reported && !decide (old.state = .stopPending) }

/-- Enter a state that carries no start cause. -/
def enter (i : LpId) (st : LpState) (s : State) : State := enterFor none i st s

/-- A recall (R50). -/
def takeBack (i : LpId) (s : State) : State :=
  let t := enter i .running s
  (t.setChan i { t.chans[i] with recalls := satSucc 255 t.chans[i].recalls }).raise .recalled

/-- A fault that locks: recorded, then LOCKOUT with kind SOFT (R45, R46, R55, R58). -/
def lockSoft (i : LpId) (code : FaultCode) (s : State) : State :=
  let t := reportLp i code true s
  enter i .lockout (t.setChan i { t.chans[i] with lockout := .soft })

/-- The stop is granted (R44, R46): COASTING for a ROTATION load point, STOPPED for any other. -/
def confirmStop (i : LpId) (s : State) : State :=
  enter i (if s.unitMode i = .rotation then .coasting else .stopped) s

/-! ### What the machine's lines say to a channel -/

/-- The lines confirm a requested stop: GRANTn present, or RUNn absent (R44, R46). -/
def State.stopConfirmed (s : State) (i : LpId) : Bool :=
  if (s.block i).isHandshake then s.grantPresent i else !s.runPresent i

/-- The lines take back the stop in the state the channel is in (R50). -/
def State.recalled (s : State) (i : LpId) : Bool :=
  if (s.block i).isHandshake then s.chans[i].state == .stopped && !s.grantPresent i
  else (s.chans[i].state == .coasting || s.chans[i].state == .stopped || s.chans[i].state == .startPending) &&
    s.runPresent i

/-- The leader's condition of R53: every counted follower is released and running. -/
def State.leadHeld (s : State) (i : LpId) : Bool :=
  (s.followers i).all fun j =>
    s.chans[j].state == .lockout || s.chans[j].state == .excluded || (!s.stopLine j && s.runPresent j)

/-- A channel in START_PENDING is ready to bid (R52, R53). -/
def State.ready (s : State) (i : LpId) : Bool := !s.isLeader i || s.chans[i].leadT == .expired

/-- The leader of a follower is in the given state. -/
def State.leaderIn (s : State) (i : LpId) (st : LpState) : Bool :=
  match s.leader i with
  | some l => s.chans[l].state == st
  | none => false

/-- A follower whose leader's STOPn is released (R60). -/
def State.leaderReleased (s : State) (i : LpId) : Bool :=
  match s.leader i with
  | some l => !s.stopLine l
  | none => false

/-! ### Plant mode entries as the channels answer them (R62, R63) -/

/-- One channel's answer to an entry into NIGHT: the retry count reloads, the auto-off mark clears, and a start
of cause WAKE is called off; R39 takes the rest further. -/
def nightAnswer (s : State) (i : LpId) : State :=
  if s.inUse i then
    let c := s.chans[i]
    let t := s.setChan i { c with retry := (s.block i).retries.toNat, autoOff := false }
    if c.state = .startPending ∧ c.cause = some .wake then enter i .stopped t else t
  else s

/-- The queued entry of a load point takes cause WAKE in place (R63, R120). -/
def entryToWake (i : LpId) (q : QueueEntry) : QueueEntry :=
  if q.entry.lp = i then { q with entry := { q.entry with cause := .wake } } else q

/-- One channel's answer to an entry into WAKE. -/
def wakeAnswer (s : State) (i : LpId) : State :=
  if s.inUse i then
    match s.chans[i].state with
    | .stopped => enterFor (some .wake) i .startPending s
    | .startPending =>
      (s.withRound { s.round with queue := s.round.queue.map (entryToWake i) }).setChan i
        { s.chans[i] with cause := some .wake }
    | .idleWatch | .stopPending | .stopRequested => enter i .running s
    | _ => s
  else s

/-- One channel's answer to an entry into DAY. -/
def dayAnswer (s : State) (i : LpId) : State :=
  if s.inUse i && s.chans[i].state == .excluded then enter i .running s else s

/-- The plant mode is entered: every in-use channel answers in the same event (R62, R63, R147). -/
def enterMode (m : PlantMode) (s : State) : State :=
  let t := s.withMode { s.mode with plant := m }
  match m with
  | .night => lpIds.foldl nightAnswer t
  | .wake => lpIds.foldl wakeAnswer t
  | .day => lpIds.foldl dayAnswer t

/-- The mode decided at the end of LISTEN_IN (R145, R150). -/
def decideMode (s : State) : State :=
  enterMode (if s.nightSignal then .night else if s.anyHeld then .wake else .day) s

end Sys2Proof.Machine
end

