-- ==== Sys2Proof/Machine/Layout.lean ====
section
/-! DEFINITION. Frames the station sends and their bytes on the line: the CRC (R70), BEACON, PLAN and INTENT
payloads (section 11.2). -/

namespace Sys2Proof.Machine

/-! ### The CRC (R70) -/

def crcBit (r : BitVec 16) (b : Bool) : BitVec 16 :=
  if (r.msb != b) then (r <<< 1) ^^^ 0x1021 else r <<< 1

/-- One byte, least significant bit first. -/
def crcByte (r : BitVec 16) (x : Byte) : BitVec 16 :=
  [0, 1, 2, 3, 4, 5, 6, 7].foldl (fun r k => crcBit r (x.getLsbD k)) r

def crc (bytes : List Byte) : BitVec 16 := bytes.foldl crcByte 0xFFFF

/-- The bytes the CRC covers: the five header bytes and the payload (R69). -/
def Frame.body (f : Frame) : List Byte :=
  f.kind :: f.source :: f.destination :: f.seq :: BitVec.ofNat 8 f.payload.length :: f.payload

/-- The frame on the line, the CRC low byte first (R69, R70). -/
def Frame.wire (f : Frame) : List Byte := f.body ++ le 2 (crc f.body).toNat

/-! ### Kinds and addresses (R71) -/

def kindBeacon : Byte := 1
def kindPlan : Byte := 2
def kindIntent : Byte := 3
def kindInquiry : Byte := 8
def kindDirective : Byte := 9
def kindReply : Byte := 10
def broadcast : Byte := 255

def State.ownAddress (s : State) : Byte := s.station.address.getD 0

/-! ### BEACON (R86, R87) -/

/-- The beacon's mode item. -/
def State.beaconMode (s : State) : Nat :=
  if s.listening then 0 else match s.mode.plant with
    | .day => 1
    | .night => 2
    | .wake => 3

/-- The plan-request item (R86). -/
def State.planRequest (s : State) : Bool :=
  s.listening || (s.isActive && s.peers.entries.any fun e => e.freshness == .fresh && e.planState == .unchecked)

/-- The service has an in-use consumer or provider on this station (R87). -/
def State.carries (s : State) (v : SvcId) : Bool :=
  s.svcInUse v &&
    lpIds.any fun i => s.inUse i && ((s.block i).providesOf == some v || (s.block i).demands.any fun d => d.1 == v)

/-- A service figure as a beacon carries it. -/
def figureBytes (v : SvcId) (demand capacity : Nat) : List Byte :=
  BitVec.ofNat 8 v.val :: (le 2 demand ++ le 2 capacity)

/-- The services whose figures the station's beacons carry, in ascending order. -/
def State.beaconServices (s : State) : List SvcId := svcIds.filter s.carries

/-- The top alert byte: class order in bits 4 to 7, level in bits 0 to 2. -/
def topAlertByte : Option (Nat × Nat) → Byte
  | some (c, l) => BitVec.ofNat 8 (16 * c + l)
  | none => 0

/-- The station's own top alert as order and level. -/
def State.topAlertCode (s : State) : Option (Nat × Nat) := s.topAlert.map fun a => (a.1.index.val + 1, a.2)

def beaconPayload (s : State) : List Byte :=
  let vs := s.beaconServices
  [BitVec.ofNat 8 (s.beaconMode + 16 * marksOf [s.mode.nightLevel.getD false, s.planRequest, s.viewOverflow,
      s.mode.isolated]),
    s.station.statusInterval, topAlertByte s.topAlertCode, BitVec.ofNat 8 vs.length] ++
  vs.flatMap fun v => figureBytes v (s.ownDemand v) (s.ownCapacity v)

/-! ### PLAN pages -/

def serviceBytes (b : ServiceBlock) : List Byte :=
  b.inUse :: b.margin :: (le 2 b.cmin.toNat ++ le 2 b.surplusHold.toNat ++ [b.shortfallConfirm])

def planBytes (p : PlanBlock) : List Byte :=
  le 2 p.planNumber.toNat ++ le 2 p.w.toNat ++ le 2 p.g.toNat ++ le 2 p.b.toNat

/-- The payload of page 0, 1 or 2 of a station's announcement. -/
def pagePayload (c : Configuration) (page : Nat) : List Byte :=
  let services := ((c.services.toList.drop (4 * page)).take 4).flatMap serviceBytes
  if page = 0 then 0 :: (planBytes c.plan ++ services) else BitVec.ofNat 8 page :: services

/-! ### INTENT entries -/

def Action.code : Action → Nat
  | .stop => 0
  | .start => 1

def Cause.code : Cause → Nat
  | .night => 0
  | .wake => 1
  | .shortfall => 2

/-- The six demand-pair bytes; those beyond the list are no part of the entry (R172). -/
def pairBytes (ds : List (SvcId × Nat)) : List Byte :=
  [0, 1, 2].flatMap fun k =>
    match ds[k]? with
    | some (v, u) => [BitVec.ofNat 8 v.val, BitVec.ofNat 8 u]
    | none => [Config.unusedPairByte (2 * k), Config.unusedPairByte (2 * k + 1)]

/-- An entry's 15 bytes (section 11.2). -/
def entryBytes (e : Entry) : List Byte :=
  [BitVec.ofNat 8 e.lp.val, BitVec.ofNat 8 e.action.code, BitVec.ofNat 8 e.cause.code, BitVec.ofNat 8 e.level] ++
  leOpt 1 (e.provides.map Fin.val) ++ le 2 e.capacity ++
  [BitVec.ofNat 8 e.inrush, BitVec.ofNat 8 e.demands.length] ++ pairBytes e.demands

def intentPayload (es : List Entry) : List Byte := BitVec.ofNat 8 es.length :: es.flatMap entryBytes

/-! ### Frames as they are handed -/

def State.frameOf (s : State) (kind destination seq : Byte) (payload : List Byte) : Frame :=
  { kind, source := s.ownAddress, destination, seq, payload }

/-- A beacon whose outcome hands an announcement is the first of LISTEN_IN or has a sequence of 0, 64, 128 or
192 (R90). -/
def State.beaconFrame (s : State) (firstOfListenIn : Bool) : OutFrame :=
  { origin := .beacon (firstOfListenIn || s.mode.seq.toNat % 64 == 0),
    frame := s.frameOf kindBeacon broadcast s.mode.seq (beaconPayload s) }

/-- The three pages of an announcement with the present toggle (R89). -/
def State.announcement (s : State) : List OutFrame :=
  match s.config with
  | some c => [0, 1, 2].map fun k =>
      { origin := .page k, frame := s.frameOf kindPlan broadcast (markByte s.mode.toggle) (pagePayload c k) }
  | none => []

def State.intentFrame (s : State) (qs : List QueueEntry) : OutFrame :=
  { origin := .intent,
    frame := s.frameOf kindIntent broadcast (BitVec.ofNat 8 (min 255 s.round.heard))
      (intentPayload (qs.map QueueEntry.entry)) }

def State.replyFrame (s : State) (seq : Byte) (payload : List Byte) : OutFrame :=
  { origin := .reply, frame := s.frameOf kindReply 0 seq payload }

end Sys2Proof.Machine
end

