-- ==== Sys2Proof/Decode.lean ====
section
/-! DEFINITION. The commands that words and frames spell. The opcode table gives its rows no bits, so no table word
spells a command. A frame on the link does: `commandOf` is the acceptance check of R78 with the length rules of
R172, and names the command that a whole received frame is. -/

namespace Sys2Proof

open Machine

/-- The command a table word spells: none, since no row of the opcode table has bits. -/
def decodeTableWord (_nbits _w : Nat) : Option Instr := none

/-! ### Payloads (chapter 11) -/

def beaconModeOf (b : BitVec 2) : BeaconMode :=
  match b.toNat with
  | 0 => .listenIn
  | 1 => .day
  | 2 => .night
  | _ => .wake

def readFigures (p : List Byte) : Nat → Nat → List RawFigure
  | _, 0 => []
  | o, n + 1 =>
    { service := byteAt p o, demand := halfAt p (o + 1), capacity := halfAt p (o + 3) } :: readFigures p (o + 5) n

/-- A BEACON payload of 4 + 5n bytes with n at most 12 (R172). -/
def readBeacon (p : List Byte) : Option BeaconMsg :=
  let b := byteAt p 0
  let a := byteAt p 2
  let n := (byteAt p 3).toNat
  if p.length = 4 + 5 * n ∧ n ≤ 12 then
    some { mode := beaconModeOf (b.extractLsb' 0 2), nightLine := b.getLsbD 4, planRequest := b.getLsbD 5,
           viewOverflow := b.getLsbD 6, isolated := b.getLsbD 7, interval := byteAt p 1,
           alertClass := a.extractLsb' 4 4, alertLevel := a.extractLsb' 0 3, figures := readFigures p 4 n }
  else none

def readService (p : List Byte) (o : Nat) : ServiceBlock :=
  { inUse := byteAt p o, margin := byteAt p (o + 1), cmin := halfAt p (o + 2), surplusHold := halfAt p (o + 4),
    shortfallConfirm := byteAt p (o + 6) }

def readServices (p : List Byte) (o : Nat) : PageServices :=
  { s0 := readService p o, s1 := readService p (o + 7), s2 := readService p (o + 14), s3 := readService p (o + 21) }

/-- A PLAN payload: 37 bytes for page 0, 29 for any other (R172). -/
def readPage (p : List Byte) : Option PlanPage :=
  let n := byteAt p 0
  if n = 0 then
    if p.length = 37 then
      some (.first { planNumber := halfAt p 1, w := halfAt p 3, g := halfAt p 5, b := halfAt p 7 }
        (readServices p 9))
    else none
  else if p.length = 29 then some (.later n (readServices p 1))
  else none

def readEntry (p : List Byte) (o : Nat) : RawEntry :=
  { lp := byteAt p o, action := byteAt p (o + 1), cause := byteAt p (o + 2), level := byteAt p (o + 3),
    provides := byteAt p (o + 4), capacity := halfAt p (o + 5), inrush := byteAt p (o + 7),
    pairCount := byteAt p (o + 8), pair0 := ⟨byteAt p (o + 9), byteAt p (o + 10)⟩,
    pair1 := ⟨byteAt p (o + 11), byteAt p (o + 12)⟩, pair2 := ⟨byteAt p (o + 13), byteAt p (o + 14)⟩ }

def readEntries (p : List Byte) : Nat → Nat → List RawEntry
  | _, 0 => []
  | o, n + 1 => readEntry p o :: readEntries p (o + 15) n

/-- An INTENT payload of 1 + 15n bytes with n from 1 to 4 (R172). -/
def readIntent (p : List Byte) : Option (List RawEntry) :=
  let n := (byteAt p 0).toNat
  if p.length = 1 + 15 * n ∧ 1 ≤ n ∧ n ≤ 4 then some (readEntries p 1 n) else none

/-- An INQUIRY of this station (section 11.3). -/
def readInquiry (seq : Byte) (p : List Byte) : Instr :=
  let start := byteAt p 1
  let count := byteAt p 2
  match (byteAt p 0).toNat with
  | 1 => .inquiryStationStatus seq start count
  | 2 => .inquiryLpRuntime seq start count
  | 3 => .inquiryPeerTable seq start count
  | 4 => .inquiryLastRound seq start count
  | 5 => .inquiryFaultRecords seq start count
  | 6 => .inquiryCounters seq start count
  | 7 => .inquiryConfigurationEcho seq start count
  | _ => .badTable seq (byteAt p 0) start count

/-- A DIRECTIVE to this station; only the argument bits the table names are read (section 11.3). -/
def readDirective (seq : Byte) (p : List Byte) : Instr :=
  match (byteAt p 0).toNat with
  | 1 => .clearFault seq (byteAt p 1) ((byteAt p 2).getLsbD 0)
  | 2 => .clearLockout seq (byteAt p 1)
  | 3 => .excludeLps seq (byteAt p 1)
  | 4 => .includeLps seq (byteAt p 1)
  | 5 => .forgetPeer seq (byteAt p 1)
  | 6 => .clearAlerts seq (halfAt p 1)
  | 7 => .restart seq
  | _ => .badDirective seq (byteAt p 0) (halfAt p 1)

/-! ### Frames (R69, R71, R78, R79) -/

/-- A frame whose CRC is right: the form check of R71 and R172, and who takes it (R79, R80). `own` is the
station's address, if it holds one. -/
def commandOfBody (own : Option Byte) (kind src dst seq : Byte) (payload : List Byte) : Instr :=
  let station (i : Instr) : Instr := if own = some src then .addressConflict else i
  if kind = kindBeacon ∧ isStation src ∧ dst = broadcast then
    match readBeacon payload with
    | some m => station (.beacon src seq m)
    | none => .formatError
  else if kind = kindPlan ∧ isStation src ∧ dst = broadcast then
    match readPage payload with
    | some p => station (.plan src seq p)
    | none => .formatError
  else if kind = kindIntent ∧ isStation src ∧ dst = broadcast then
    match readIntent payload with
    | some es => station (.intent src seq es)
    | none => .formatError
  else if kind = kindReply ∧ isStation src ∧ dst = 0 then
    if 3 ≤ payload.length ∧ payload.length ≤ 64 then station (.reply src) else .formatError
  else if (kind = kindInquiry ∨ kind = kindDirective) ∧ src = 0 ∧ isStation dst ∧ payload.length = 3 then
    if own = some dst then
      (if kind = kindInquiry then readInquiry seq payload else readDirective seq payload)
    else .foreignToolFrame
  else .formatError

/-- The command a received character string is, when no framing fault or truncation ended it: a payload length
above 64, or a string that is not a whole frame of its length, ends the reception early; a whole frame is checked
for its CRC first and then for its form (R77, R78). -/
def commandOf (own : Option Byte) (bytes : List Byte) : Instr :=
  match bytes with
  | kind :: src :: dst :: seq :: len :: rest =>
    if 64 < len.toNat ∨ rest.length ≠ len.toNat + 2 then .receptionEndedEarly
    else
      let payload := rest.take len.toNat
      let received := halfAt rest len.toNat
      if crc (kind :: src :: dst :: seq :: len :: payload) ≠ received then .crcError
      else commandOfBody own kind src dst seq payload
  | _ => .receptionEndedEarly

end Sys2Proof
end

