-- ==== Sys2Proof/Machine/Link.lean ====
section
/-! DEFINITION. The link controller's shared operations (chapter 4): the waiting set, the frame in progress, what
the end of a frame on the line does, and isolation. -/

namespace Sys2Proof.Machine

/-! ### The waiting set and the frame in progress (R72, R73) -/

/-- Take a frame: its attempt starts in that event when the line is idle (R73). -/
def Link.begin (l : Link) (f : OutFrame) : Link :=
  { l with inProgress := some { out := f, phase := if l.lineIdle then .sending else .waiting, attempts := 0 },
           lineIdle := false }

/-- With no frame in progress, take the next: a page of the announcement being sent, then INTENT, REPLY,
announcement, BEACON (R72). -/
def Link.takeNext (l : Link) : Link :=
  if l.inProgress.isSome then l else
  match l.pagesLeft, l.waitIntent, l.waitReply, l.waitPages, l.waitBeacon with
  | p :: ps, _, _, _, _ => { l with pagesLeft := ps }.begin p
  | [], some f, _, _, _ => { l with waitIntent := none }.begin f
  | [], none, some f, _, _ => { l with waitReply := none }.begin f
  | [], none, none, p :: ps, _ => { l with waitPages := [], pagesLeft := ps }.begin p
  | [], none, none, [], some f => { l with waitBeacon := none }.begin f
  | [], none, none, [], none => l

/-- An announcement handed earlier is still unbegun: no outcome of its page 0 yet (R89). -/
def Link.announcementUnbegun (l : Link) : Bool :=
  !l.waitPages.isEmpty || match l.inProgress with
    | some t => t.out.origin == .page 0
    | none => false

/-- A beacon is held whose outcome hands an announcement (R90). -/
def Link.holdsTrigger (l : Link) : Bool :=
  (match l.inProgress with
   | some t => t.out.origin == .beacon true
   | none => false) ||
  match l.waitBeacon with
  | some f => f.origin == .beacon true
  | none => false

/-- Every frame held is dropped (R80, R84). -/
def Link.dropAll (l : Link) : Link :=
  { l with inProgress := none, pagesLeft := [], waitIntent := none, waitReply := none, waitPages := [],
           waitBeacon := none }

/-- Build and hand an announcement, unless one waits unbegun (R89, R90). -/
def announce (s : State) : State :=
  if s.beaconing && !s.link.announcementUnbegun then
    (s.withLink { s.link with waitPages := s.announcement }.takeNext).withMode
      { s.mode with toggle := !s.mode.toggle }
  else s

/-- The outcome of a beacon is reported, whatever it is (R90). -/
def beaconOutcome (triggers : Bool) (s : State) : State := if triggers then announce s else s

/-- Build a beacon with the next sequence and hand it; a beacon still waiting is replaced and reported discarded
(R72, R85, R88). -/
def handBeacon (firstOfListenIn : Bool) (s : State) : State :=
  let f := s.beaconFrame firstOfListenIn
  let t := (s.withLink { s.link with waitBeacon := some f }.takeNext).withMode
    { s.mode with seq := s.mode.seq + 1 }
  match s.link.waitBeacon with
  | some { origin := .beacon triggers, frame := _ } => beaconOutcome triggers t
  | _ => t

/-- Hand a reply; an earlier reply in the waiting set is replaced, and one that is in progress is not (R72, R171; log
entry 39). A station without an address sends none. -/
def handReply (seq : Byte) (payload : List Byte) (s : State) : State :=
  if s.station.address.isSome && !s.inConflict then
    s.withLink { s.link with waitReply := some (s.replyFrame seq payload) }.takeNext
  else s

/-! ### Counters (R83) -/

def countUp (n : Nat) : Nat := satSucc 65535 n

def State.withCounters (s : State) (c : LinkCounters) : State := s.withLink { s.link with counters := c }
def accept (s : State) : State :=
  s.withCounters { s.link.counters with accepted := countUp s.link.counters.accepted }
def countCrcError (s : State) : State :=
  s.withCounters { s.link.counters with crcErrors := countUp s.link.counters.crcErrors }
def countFormatError (s : State) : State :=
  s.withCounters { s.link.counters with formatErrors := countUp s.link.counters.formatErrors }
def countLateIntent (s : State) : State :=
  s.withCounters { s.link.counters with lateIntents := countUp s.link.counters.lateIntents }
def countMissedRound (s : State) : State :=
  s.withCounters { s.link.counters with missedRounds := countUp s.link.counters.missedRounds }

/-! ### Reception (R77, R79, R84) -/

/-- The load, or the re-read of a warm restart, is over: the link is received and inputs are filtered. -/
def State.loaded (s : State) : Bool := s.mode.station.isSome
/-- The loader is not reading: frames are taken in (R10, R16). -/
def State.loaderIdle (s : State) : Bool := s.loader.phase == .done

def Link.isSending (l : Link) : Bool :=
  match l.inProgress with
  | some t => t.phase == .sending
  | none => false

/-- A frame on the line reaches the receiver: not while the loader runs, not while the station's own attempt is
on the line, and not before the line is idle again after a reception that ended early (R10, R16, R77). -/
def State.receiving (s : State) : Bool :=
  s.loaded && s.loaderIdle && !s.link.isSending && !s.link.awaitIdle

/-- A backoff of so many slots starts; one of 0 slots expires as it starts, and the attempt starts at once when
the line is idle (R75). -/
def backoffFrom (lineIdle : Bool) (slots : Nat) : TxPhase :=
  if slots = 0 then (if lineIdle then .sending else .waiting) else .backingOff (startAt (slots * Config.slotUs))

/-- Change the phase of the frame in progress. -/
def Link.rephase (l : Link) (f : TxPhase → TxPhase) : Link :=
  { l with inProgress := l.inProgress.map fun t => { t with phase := f t.phase } }

/-- The line right after the end of a frame: not idle, and no frame on it (R67). -/
def Link.lineEnds (l : Link) : Link := { l with lineIdle := false, collecting := false }

/-- A frame of another station ended whole: the backoff that waited for the winning frame's end starts (R67,
R75). -/
def frameEnd (s : State) : State :=
  s.withLink (s.link.lineEnds.rephase fun
    | .lostAwaitingEnd n => backoffFrom false n
    | p => p)

/-- A frame that the receiver did not take in ended on the line (R67). -/
def frameMissed (s : State) : State := s.withLink s.link.lineEnds

/-- The first start bit of another sender's frame: the line is idle no longer, and the receiver collects the frame;
one that begins while the loader reads is not taken in, nor is any before the line is idle again (R10, R16, R67,
R77; log entry 36). -/
def otherStarts (s : State) : State :=
  s.withLink { s.link with
    lineIdle := false
    collecting := s.receiving
    awaitIdle := s.link.awaitIdle || !(s.loaded && s.loaderIdle) }

/-! ### Isolation (R81, R82, R122, R149) -/

/-- The link controller assesses isolation (R81). -/
def State.assessesIsolation (s : State) : Bool := s.beaconing

/-- The outstanding INTENT frame is taken back, or cut off when it is on the line (R122). The cut leaves the own
receiver's marks as they stand: it collects and counts nothing of the own attempt by itself, and it takes in the next
reception that ends, that of a frame which stands on the line among them (R77; log entry 47). -/
def recallIntent (s : State) : State :=
  let l := s.link
  let l := match l.inProgress with
    | some t => if t.out.origin = Origin.intent then { l with inProgress := none } else l
    | none => l
  (s.withLink { l with waitIntent := none }.takeNext).withRound { s.round with outstanding := none }

/-- Entry into ISOLATED (R81, R122, R149). -/
def enterIsolated (s : State) : State :=
  let t := (s.withMode { s.mode with isolated := true }).withLink { s.link with latch := true, heard := false }
  recallIntent (t.raise .isolated)

/-- Exit from ISOLATED (R82). -/
def leaveIsolated (s : State) : State :=
  (s.withMode { s.mode with isolated := false }).withLink { s.link with heard := false }

end Sys2Proof.Machine
end

