-- ==== Sys2Proof/Machine/Round.lean ====
section
/-! DEFINITION. The round evaluator (chapter 7): sending entries, taking frames into the round, and the
evaluation at the close. -/

namespace Sys2Proof.Machine

/-- The most entries a round list holds (R123). -/
def listCapacity : Nat := 24

/-! ### Sending (R121) -/

/-- The conditions under which an INTENT frame is handed (R121). -/
def State.mayHandIntent (s : State) : Bool :=
  s.isActive && !s.mode.isolated && !s.round.queue.isEmpty &&
    (s.round.phase == .closed || (s.round.phase == .opened && !s.round.join)) && s.round.outstanding.isNone

/-- Hand the first four entries of the queue (R121). -/
def handIntent (s : State) : State :=
  let qs := s.round.queue.take 4
  (s.withLink { s.link with waitIntent := some (s.intentFrame qs) }.takeNext).withRound
    { s.round with outstanding := some qs }

/-! ### Taking frames into the round (R123 to R128) -/

/-- A frame opens the round when it is CLOSED: the window starts at W (R123). -/
def Round.openIfClosed (r : Round) (w : Nat) : Round :=
  if r.phase = .closed then { r with phase := .opened, window := startAt (millis w) } else r

/-- Append an entry while the list has room, else count it refused. -/
def Round.enterOwn (r : Round) (e : ListEntry) : Round :=
  if r.list.length < listCapacity then { r with list := r.list ++ [e] }
  else { r with refused := satSucc 255 r.refused }

/-- The window W in force, in ms. -/
def State.planW (s : State) : Nat := match s.config with
  | some c => c.plan.w.toNat
  | none => 0
def State.planG (s : State) : Nat := match s.config with
  | some c => c.plan.g.toNat
  | none => 0
def State.planB (s : State) : Nat := match s.config with
  | some c => c.plan.b.toNat
  | none => 0

/-- The station's own INTENT frame completed (R126). -/
def ownIntentTaken (s : State) : State :=
  match s.round.outstanding with
  | none => s
  | some qs =>
    let r := { s.round with outstanding := none }
    if r.phase = .guarding then countMissedRound (s.withRound r)
    else
      let r := r.openIfClosed s.planW
      let r := { r with heard := min 255 (r.heard + qs.length), join := true }
      s.withRound (qs.foldl (fun r q =>
        r.enterOwn { station := s.ownAddress, entry := q.entry, own := some q.serial }) r)

/-- The list already holds an entry of that station and load point (R128). -/
def Round.holds (r : Round) (station : Byte) (i : LpId) : Bool :=
  r.list.any fun e => e.station == station && e.entry.lp == i

/-- Take one entry of a peer's frame, or refuse it (R128). -/
def Round.takeEntry (src : Byte) (mismatched : Bool) (r : Round) (raw : RawEntry) : Round :=
  match rawToEntry raw with
  | some e =>
    if mismatched || r.holds src e.lp || decide (listCapacity ≤ r.list.length) then
      { r with refused := satSucc 255 r.refused }
    else { r with list := r.list ++ [{ station := src, entry := e, own := none }] }
  | none => { r with refused := satSucc 255 r.refused }

/-- Take a peer's frame into an open or opening round (R123, R127, R128). -/
def Round.takeFrame (src : Byte) (count : Nat) (mismatched : Bool) (w : Nat) (raws : List RawEntry)
    (r : Round) : Round :=
  let r := r.openIfClosed w
  let r := { r with doubtful := r.doubtful || decide (r.heard < count),
                    heard := min 255 (r.heard + raws.length) }
  raws.foldl (Round.takeEntry src mismatched) r

/-- The plan state the table holds for a sender is MISMATCHED (R97). -/
def State.mismatched (s : State) (src : Byte) : Bool :=
  s.peers.entries.any fun e => e.address == src && e.planState == .mismatched

/-- A peer's INTENT frame reaches the evaluator: taken, or late in GUARD (R125, R139). In PASSIVE it takes
nothing. -/
def takeIntent (src : Byte) (count : Byte) (raws : List RawEntry) (s : State) : State :=
  if s.listening || s.deciding then
    if s.round.phase = .guarding then countLateIntent s
    else s.withRound (s.round.takeFrame src count.toNat (s.mismatched src) s.planW raws)
  else s

/-! ### The evaluation (R129 to R134) -/

/-- Sorted order: level descending, then station address ascending, then load point ascending (R129). -/
def sortsBefore (a b : ListEntry) : Bool :=
  decide (b.entry.level < a.entry.level) ||
    (a.entry.level == b.entry.level &&
      (decide (a.station < b.station) || (a.station == b.station && decide (a.entry.lp < b.entry.lp))))

def insertSorted (e : ListEntry) : List ListEntry → List ListEntry
  | [] => [e]
  | x :: xs => if sortsBefore e x then e :: x :: xs else x :: insertSorted e xs

def sortEntries (es : List ListEntry) : List ListEntry := es.foldr insertSorted []

/-- What the evaluator reads of a service in use at the close (R115). -/
structure Figures where
  c : Nat
  d : Nat
  r : Nat
  margin : Nat
  cmin : Nat
  deriving DecidableEq, Repr

/-- The figures of the services at the close; none for a service not in use. -/
abbrev FigureTable := Vector (Option Figures) 12

def State.figureTable (s : State) : FigureTable :=
  Vector.ofFn fun v =>
    if s.svcInUse v then
      some { c := s.capacity v, d := s.demand v, r := s.required v, margin := (s.svcBlock v).margin.toNat,
             cmin := (s.svcBlock v).cmin.toNat }
    else none

/-- The start walk's sums (R130 to R132) and the stop walk's remaining capacities (R133). -/
structure Walk where
  used : Nat
  granted : Vector Nat 12
  added : Vector Nat 12
  remaining : Vector Nat 12
  first : Bool
  ended : Bool
  deriving DecidableEq, Repr

def Walk.begin (figs : FigureTable) : Walk :=
  { used := 0, granted := Vector.replicate 12 0, added := Vector.replicate 12 0,
    remaining := Vector.ofFn fun v => (figs[v].map Figures.c).getD 0, first := true, ended := false }

/-- A demand pair passes: C(s) covers the requirement with the start granted (R131). -/
def pairPasses (figs : FigureTable) (w : Walk) (d : SvcId × Nat) : Bool :=
  match figs[d.1] with
  | some f => decide (requiredFor f.cmin f.margin (f.d + w.granted[d.1] + d.2) ≤ f.c)
  | none => true

/-- A SHORTFALL start of a provider of an in-use service is not needed any more (R132). -/
def notNeeded (figs : FigureTable) (w : Walk) (e : Entry) : Bool :=
  match e.cause, e.provides with
  | .shortfall, some v =>
    match figs[v] with
    | some f => decide (f.r ≤ f.c + w.added[v])
    | none => false
  | _, _ => false

/-- What a granted start adds to the walk's sums (R132). -/
def Walk.grantStart (figs : FigureTable) (w : Walk) (e : Entry) : Walk :=
  { w with
    used := w.used + e.inrush
    granted := e.demands.foldl (fun g d => if figs[d.1].isSome then g.set d.1 (g[d.1] + d.2) else g) w.granted
    added := match e.cause, e.provides with
      | .shortfall, some v => if figs[v].isSome then w.added.set v (w.added[v] + e.capacity) else w.added
      | _, _ => w.added }

/-- The service tests of a start that has passed the budget (R131, R132). -/
def serviceTests (figs : FigureTable) (w : Walk) (e : Entry) : EntryOutcome × Walk :=
  if !e.demands.all (pairPasses figs w) then (.skippedDemand, w)
  else if notNeeded figs w e then (.skippedNotNeeded, w)
  else (.granted, w.grantStart figs e)

/-- One START entry of the walk: the budget in strict order, with the exception of a first entry whose inrush
alone exceeds B (R130). -/
def walkStart (b : Nat) (figs : FigureTable) (w : Walk) (e : Entry) : EntryOutcome × Walk :=
  if w.ended then (.deferred, w)
  else if w.first && decide (b < e.inrush) then
    let (o, w') := serviceTests figs w e
    (o, { w' with first := false, ended := true })
  else if b < w.used + e.inrush then (.deferred, { w with first := false, ended := true })
  else
    let (o, w') := serviceTests figs w e
    (o, { w' with first := false })

/-- One STOP entry of the walk (R133). -/
def walkStop (figs : FigureTable) (w : Walk) (e : Entry) : EntryOutcome × Walk :=
  match e.provides with
  | none => (.deniedService, w)
  | some v =>
    match figs[v] with
    | none => (.deniedService, w)
    | some f =>
      if e.capacity + f.r ≤ w.remaining[v] then
        (.granted, { w with remaining := w.remaining.set v (w.remaining[v] - e.capacity) })
      else (.deniedCapacity, w)

/-- The walks over the sorted list. They share no sum (R129), so one pass keeps both. The second result is
`used` at the end. -/
def walk (b : Nat) (figs : FigureTable) : Walk → List ListEntry → List (ListEntry × EntryOutcome) × Nat
  | w, [] => ([], w.used)
  | w, e :: es =>
    let (o, w') := match e.entry.action with
      | .start => walkStart b figs w e.entry
      | .stop => walkStop figs w e.entry
    let (rest, used) := walk b figs w' es
    ((e, o) :: rest, used)

/-- The station's own granted stops are turned into denials with reason VIEW (R134, R138). -/
def viewDenial (incomplete : Bool) (x : ListEntry × EntryOutcome) : ListEntry × EntryOutcome :=
  if incomplete && x.1.own.isSome && x.1.entry.action == .stop && x.2 == .granted then (x.1, .deniedView) else x

/-- The station's own stops are not granted: the three conditions of R134, and ADDRESS_CONFLICT, where local stagger
is in use as it is while ISOLATED (R138; log entry 35). -/
def State.deniesOwnStops (s : State) : Bool :=
  s.mode.isolated || s.viewOverflow || s.round.doubtful || s.inConflict

/-- The frozen round: every entry in sorted order with its outcome, and used (R129 to R134, R138). -/
def evaluate (s : State) : List (ListEntry × EntryOutcome) × Nat :=
  let (res, used) := walk s.planB s.figureTable (Walk.begin s.figureTable) (sortEntries s.round.list)
  (res.map (viewDenial s.deniesOwnStops), used)

/-! ### Results (R135, R136) -/

/-- A grant reaches the channel of the queue entry, whose entry is removed (R41, R52, R135, R137). -/
def grantEntry (q : QueueEntry) (s : State) : State :=
  let i := q.entry.lp
  match q.entry.action, s.chans[i].state with
  | .stop, .stopPending => enter i .stopRequested s
  | .start, .startPending => enter i .starting s
  | _, _ => withdraw i s

/-- Apply one outcome to the queue entry it was sent from, when that entry still stands (R135). -/
def applyOutcome (s : State) (x : ListEntry × EntryOutcome) : State :=
  match x.2, s.round.queue.find? fun q => x.1.own == some q.serial with
  | .granted, some q => grantEntry q s
  | _, _ => s

/-- The record of the round that closes (R136). -/
def closingRecord (s : State) (res : List (ListEntry × EntryOutcome) × Nat) : LastRound :=
  { closeTime := s.faults.uptime, budget := s.planB, used := res.2, heard := s.round.heard,
    refused := s.round.refused, doubtful := s.round.doubtful, isolated := s.mode.isolated,
    viewOverflow := s.viewOverflow, entries := res.1 }

/-- The round closes: evaluated, recorded, GUARD begins, and the outcomes of own entries are applied (R124). -/
def closeRound (s : State) : State :=
  let res := evaluate s
  let t := s.withRound { s.round with
    phase := .guarding, window := .off, guardT := startAt (millis s.planG), list := [], join := false,
    last := some (closingRecord s res) }
  res.1.foldl applyOutcome t

end Sys2Proof.Machine
end

