-- ==== Sys2Proof/Machine/Cascade.lean ====
section
/-! DEFINITION. What else comes about "in the same event". An event changes the state directly; the rules of the
channels, the balance calculator, the mode controller and the round evaluator then have consequences until no
rule has one left. `due` finds the next consequence, `fire` takes it, `settle` repeats. Each consequence is one
rule's answer in the state it finds; the order follows the rules (log entry 4). -/

namespace Sys2Proof.Machine

/-- One consequence of an event. -/
inductive Due where
  /-- a recall (R49, R50) -/
  | takeBack (i : LpId)
  /-- a stop confirmed by the lines (R44, R46) -/
  | confirm (i : LpId)
  /-- the leader release rule (R60) -/
  | release (i : LpId) (st : LpState)
  /-- the leader is in START_PENDING (R61) -/
  | call (i : LpId) (cause : Option StartCause)
  | callOut (i : LpId)
  /-- RUNNING goes on in NIGHT (R39, R49) -/
  | goIdle (i : LpId) (st : LpState)
  /-- run-on done at a follower that is no provider (R42) -/
  | runOnStop (i : LpId)
  /-- the shortfall timer starts; the condition ceases (R112, R114) -/
  | shortBegins (v : SvcId)
  | shortCeases (v : SvcId)
  /-- the shortfall goes into and out of force (R113) -/
  | shortForce (v : SvcId) (on : Bool)
  /-- the surplus timer starts; condition or assessment ceases (R109) -/
  | surplusBegins (i : LpId)
  | surplusCeases (i : LpId)
  /-- the surplus report and its end (R110, R111) -/
  | surplusReport (i : LpId)
  | surplusEnds (i : LpId)
  /-- a start of cause SHORTFALL has no reason left (R54) -/
  | callOff (i : LpId)
  /-- a load point that enters STOPPED leaves it toward a start (R48, R51, R63, R113) -/
  | bid (i : LpId) (cause : StartCause)
  /-- the leader's condition comes to hold, or is lost (R53) -/
  | leadBegins (i : LpId)
  | leadLost (i : LpId)
  /-- an entry is posted (R41, R42, R52) -/
  | postStop (i : LpId)
  | postStart (i : LpId)
  /-- the plant mode changes (R147, R148) -/
  | enters (m : PlantMode)
  /-- local stagger grants a start (R137) -/
  | stagger (q : QueueEntry)
  /-- an INTENT frame is handed (R121) -/
  | handIntent
  deriving DecidableEq, Repr

/-! ### When each consequence is due, for one load point or service -/

def takeBackDue (s : State) (i : LpId) : Option Due :=
  if s.inUse i && s.recalled i then some (.takeBack i) else none

def confirmDue (s : State) (i : LpId) : Option Due :=
  if s.inUse i && s.chans[i].state == .stopRequested && s.stopConfirmed i then some (.confirm i) else none

/-- The destination the leader release rule gives a follower (R43, R60). -/
def releaseTo : LpState → Option LpState
  | .stopped | .startPending => some .starting
  | .stopRequested | .coasting | .stopPending => some .running
  | _ => none

def releaseDue (s : State) (i : LpId) : Option Due :=
  if s.leaderReleased i then (releaseTo s.chans[i].state).map (.release i) else none

def callDue (s : State) (i : LpId) : Option Due :=
  match s.leader i with
  | some l =>
    if s.chans[l].state = .startPending then
      match s.chans[i].state with
      | .stopped => some (.call i s.chans[l].cause)
      | .stopPending | .stopRequested => some (.callOut i)
      | _ => none
    else none
  | none => none

/-- RUNNING goes on in NIGHT, while HANDn is not asserted (R39, R56). -/
def goIdleDue (s : State) (i : LpId) : Option Due :=
  if s.nightWork && s.inUse i && s.chans[i].state == .running && decide (1 ≤ s.level i) && !s.handPresent i then
    if s.isFollower i then (if s.leaderIn i .stopped then some (.goIdle i .stopPending) else none)
    else some (.goIdle i .idleWatch)
  else none

def runOnDue (s : State) (i : LpId) : Option Due :=
  if s.isFollower i && !s.isProvider i && s.chans[i].state == .stopPending && s.chans[i].runOnDone then
    some (.runOnStop i) else none

def shortDue (s : State) (v : SvcId) : Option Due :=
  let b := s.svcs[v]
  if s.shortOf v && s.shortWatched then
    (if b.timer = .off then some (.shortBegins v)
     else if b.inForce != (b.confirmed && s.nightWork) then some (.shortForce v (b.confirmed && s.nightWork))
     else none)
  else if b.timer != .off || b.confirmed || b.inForce then some (.shortCeases v) else none

def surplusDue (s : State) (i : LpId) : Option Due :=
  let p := s.provs[i]
  if s.assessing && s.surplusOf i then (if p.timer = .off then some (.surplusBegins i) else none)
  else if p.timer != .off || p.established then some (.surplusCeases i) else none

def reportDue (s : State) (i : LpId) : Option Due :=
  let p := s.provs[i]
  if p.reported && (!p.established || s.chans[i].state != .stopPending) then some (.surplusEnds i)
  else if s.isProvider i && p.established && s.chans[i].state == .stopPending && !p.reported then
    some (.surplusReport i)
  else none

def callOffDue (s : State) (i : LpId) : Option Due :=
  if s.inUse i && s.chans[i].state == .startPending && s.chans[i].cause == some .shortfall &&
      !s.ownShortfall i && !s.leaderIn i .startPending then some (.callOff i) else none

def bidDue (s : State) (i : LpId) : Option Due :=
  if s.deciding && s.inUse i && s.chans[i].state == .stopped then
    if s.mode.plant = .wake then some (.bid i .wake)
    else if s.ownShortInForce i then some (.bid i .shortfall)
    else none
  else none

def leadDue (s : State) (i : LpId) : Option Due :=
  if s.isLeader i && s.chans[i].state == .startPending then
    if s.leadHeld i then (if s.chans[i].leadT = .off then some (.leadBegins i) else none)
    else (if s.chans[i].leadT = .off then none else some (.leadLost i))
  else none

def postDue (s : State) (i : LpId) : Option Due :=
  let c := s.chans[i]
  if s.inUse i && !c.entryQueued then
    if c.state = .startPending ∧ s.ready i then some (.postStart i)
    else if c.state = .stopPending ∧ s.isProvider i ∧ c.surplusHeld ∧ (s.isFollower i → c.runOnDone) then
      some (.postStop i)
    else none
  else none

/-- The plant mode that follows the night signal and the channels (R147, R148). -/
def modeDue (s : State) : Option Due :=
  if s.deciding then
    match s.mode.plant, s.nightSignal with
    | .day, true => some (.enters .night)
    | .night, false => some (.enters .wake)
    | .wake, true => some (.enters .night)
    | .wake, false => if s.anyHeld then none else some (.enters .day)
    | _, _ => none
  else none

/-- The first START entry of the queue that is not committed, while no own load point is in STARTING (R137). The four
events that the rule lists are read as the ways in which both come to hold: the grant is made in whatever event leaves
local stagger in use, such an entry queued and no own load point in STARTING (log entry 45). -/
def staggerDue (s : State) : Option Due :=
  if s.staggering && !(lpIds.any fun i => s.chans[i].state == .starting) then
    (s.round.queue.find? fun q => q.entry.action == .start && !s.round.committed q.serial).map .stagger
  else none

def intentDue (s : State) : Option Due := if s.mayHandIntent then some .handIntent else none

def anyLp (f : State → LpId → Option Due) (s : State) : Option Due := lpIds.findSome? (f s)
def anySvc (f : State → SvcId → Option Due) (s : State) : Option Due := svcIds.findSome? (f s)

/-- The rules in the order their consequences are taken (log entry 4). -/
def dueRules : List (State → Option Due) :=
  [anyLp takeBackDue, anyLp confirmDue, anyLp releaseDue, anyLp callDue, anyLp goIdleDue, anyLp runOnDue,
   anySvc shortDue, anyLp surplusDue, anyLp reportDue, anyLp callOffDue, anyLp bidDue, anyLp leadDue,
   anyLp postDue, modeDue, staggerDue, intentDue]

/-- The next consequence, if any. -/
def due (s : State) : Option Due := dueRules.findSome? fun f => f s

/-- A shortfall report: a provider of the service in STOPPED starts (R51, R113). -/
def shortAnswer (v : SvcId) (s : State) (i : LpId) : State :=
  if s.provided i == some v && s.chans[i].state == .stopped then enterFor (some .shortfall) i .startPending s else s

/-- The shortfall goes into force, with a report to every own provider in STOPPED, or out of force (R113). -/
def setForce (v : SvcId) (on : Bool) (s : State) : State :=
  let t := s.setSvc v { s.svcs[v] with inForce := on }
  if on then lpIds.foldl (shortAnswer v) t else t

/-- Take one consequence. -/
def fire (s : State) : Due → State
  | .takeBack i => takeBack i s
  | .confirm i => confirmStop i s
  | .release i st => enter i st s
  | .call i cause => enterFor cause i .startPending s
  | .callOut i => enter i .running s
  | .goIdle i st => enter i st s
  | .runOnStop i => enter i .stopRequested s
  | .shortBegins v => s.setSvc v { s.svcs[v] with timer := startAt 0 }
  | .shortCeases v => s.setSvc v SvcBalance.clear
  | .shortForce v on => setForce v on s
  | .surplusBegins i => s.setProv i { s.provs[i] with timer := startAt 0 }
  | .surplusCeases i => s.setProv i { s.provs[i] with timer := .off, established := false }
  | .surplusReport i =>
    (s.setProv i { s.provs[i] with reported := true }).setChan i { s.chans[i] with surplusHeld := true }
  | .surplusEnds i =>
    let t := s.setProv i { s.provs[i] with reported := false }
    if s.chans[i].state = .stopPending then
      withdraw i (t.setChan i { s.chans[i] with surplusHeld := false })
    else t
  | .callOff i => enter i .stopped s
  | .bid i cause => enterFor (some cause) i .startPending s
  | .leadBegins i =>
    let lead := (s.block i).leadTime
    s.setChan i { s.chans[i] with leadT := if lead = 0 then .expired else startAt (seconds lead.toNat) }
  | .leadLost i => withdraw i (s.setChan i { s.chans[i] with leadT := .off })
  | .postStop i => post i .stop .night s
  | .postStart i => post i .start ((s.chans[i].cause.map StartCause.asCause).getD .wake) s
  | .enters m => enterMode m s
  | .stagger q => grantEntry q s
  | .handIntent => handIntent s

/-- Take up to `n` consequences, one after another, each in the state the one before left. -/
def settleFor : Nat → State → State
  | 0, s => s
  | n + 1, s =>
    match due s with
    | none => s
    | some d => settleFor n (fire s d)

/-- Release up to `n` followers that the leader release rule names. -/
def releaseFor : Nat → State → State
  | 0, s => s
  | n + 1, s =>
    match anyLp releaseDue s with
    | none => s
    | some d => releaseFor n (fire s d)

/-- Every follower that the leader release rule names is released: eight releases leave none (R60). -/
def releaseAll (s : State) : State := releaseFor 8 s

/-- Take every consequence of an event. The chain always ends (R108), long before the bound; were it not so, no
follower would be left asserted under a released leader (R60; log entry 2). -/
def settle (s : State) : State := releaseAll (settleFor Config.cascadeBound s)

/-- Nothing is left due. -/
abbrev Quiet (s : State) : Prop := due s = none

end Sys2Proof.Machine
end

