-- ==== Sys2Proof/Machine/Activity.lean ====
section
/-! DEFINITION. The activity counters (chapter 2): what the filtered ACT lines, the 100 ms samples and the idle
timer's seconds do to a unit, and its three reports. -/

namespace Sys2Proof.Machine

open Host

/-! ### Reports (R31, R32) -/

/-- Activity: an armed idle timer reloads first; a channel in STOP_PENDING that is no follower returns to
IDLE_WATCH (R31, R32, R43). Other channel states take it without a change. -/
def reportActivity (i : LpId) (s : State) : State :=
  let u := s.units[i]
  let t := if u.armed then s.setUnit i { u with idle := s.reload i, expiryReported := false } else s
  if t.chans[i].state = .stopPending ∧ !t.isFollower i then settle (enter i .idleWatch t) else t

/-- Standstill: a channel in COASTING enters STOPPED (R48). -/
def reportStandstill (i : LpId) (s : State) : State :=
  if s.chans[i].state = .coasting then settle (enter i .stopped s) else s

/-- Idle expiry: the timer is at 0 and the channel leaves IDLE_WATCH (R31, R40). -/
def reportExpiry (i : LpId) (s : State) : State :=
  let t := s.setUnit i { s.units[i] with idle := 0, expiryReported := true }
  if t.chans[i].state = .idleWatch then
    settle (enter i (if t.isProvider i then .stopPending else .stopRequested) t)
  else t

/-! ### Filtered levels (R19) -/

def setAct (i : LpId) (high : Bool) (s : State) : State := s.setLines i { s.lines[i] with act := some high }

/-- A LOAD_LEVEL unit takes its first reading. A loaded unit holds an armed idle timer at its reload value (R21,
R30). -/
def ActUnit.firstReading (u : ActUnit) (loaded : Bool) (reload : Nat) : ActUnit :=
  if u.armed && loaded then { u with loaded := some true, idle := reload, expiryReported := false }
  else { u with loaded := some loaded }

/-- The filter's first level: a level, not an edge. Only a LOAD_LEVEL unit takes a reading from it (R19, R21). -/
def actFirst (i : LpId) (high : Bool) (s : State) : State :=
  let t := setAct i high s
  if t.unitMode i = .loadLevel then
    t.setUnit i (t.units[i].firstReading (loadedReading (t.block i).loadPolarity high) (t.reload i))
  else t

/-- An edge of ACTn to a level, brought by the command for units of the given modes (log entry 8). A level that
does not change is no edge; the filter's first level counts nothing; a line that no running unit reads only
changes its level. -/
def actEdge (modes : List ActMode) (k : State → State) (i : LpId) (high : Bool) (s : State) : State :=
  if s.loaded && (s.unitMode i == .none || modes.contains (s.unitMode i)) then
    match s.lines[i].act with
    | none => actFirst i high s
    | some l =>
      if l = high then s
      else if s.unitMode i = .none then setAct i high s
      else k (setAct i high s)
  else s

/-! ### The modes -/

/-- A selected edge of a STROKE unit (R20). -/
def countStroke (i : LpId) (high : Bool) (s : State) : State :=
  if edgeSelected (s.block i).edge high then
    reportActivity i (s.setUnit i { s.units[i] with count := s.units[i].count + 1 })
  else s

/-- A change of a LOAD_LEVEL unit's reading (R21). -/
def changeLoad (i : LpId) (high : Bool) (s : State) : State :=
  let now := loadedReading (s.block i).loadPolarity high
  let u := s.units[i]
  if now ∧ u.loaded ≠ some true then
    reportActivity i (s.setUnit i { u with loaded := some true, count := u.count + 1 })
  else s.setUnit i { u with loaded := some now }

/-- The quadrature step of an edge: A leading B is positive (R22). -/
def quadratureStep (phaseA : Bool) (high other : Bool) : BitVec 16 :=
  if phaseA then (if high != other then 1 else -1) else (if high == other then 1 else -1)

/-- An edge of a phase: the position of the ROTATION unit changes by one step, when the other phase has a level
(R22, R28). -/
def stepPosition (i : LpId) (high : Bool) (s : State) : State :=
  let a := if s.unitMode i = .rotation then i else partner i
  match s.lines[partner i].act with
  | some other =>
    if s.unitMode a = .rotation then
      s.setUnit a { s.units[a] with count := s.units[a].count + quadratureStep (i == a) high other }
    else s
  | none => s

/-! ### Samples (R24 to R27) -/

def signOf (d : BitVec 16) : Sign := if d.msb then .minus else .plus
def magnitude (d : BitVec 16) : Nat := d.toInt.natAbs

/-- A sample is a direction change: a non-zero delta opposite to the last non-zero sign (R25). -/
def changesDirection (u : ActUnit) (d : BitVec 16) : Bool :=
  d != 0 && match u.lastSign with
    | some sg => sg != signOf d
    | none => false

/-- What every sample stores (R24, R25). -/
def ActUnit.sampled (u : ActUnit) (d : BitVec 16) : ActUnit :=
  { u with lastDelta := d, lastPosition := u.count, lastSign := if d = 0 then u.lastSign else some (signOf d) }

/-- A sample while not coasting (R25, R26). -/
def sampleMoving (i : LpId) (d : BitVec 16) (s : State) : State :=
  let u := s.units[i]
  let turned := changesDirection u d
  let v := u.sampled d
  let t := s.setUnit i (if turned then { v with dirFlag := true, dirCount := satSucc 255 v.dirCount } else v)
  if turned ∨ (s.block i).standstillThreshold.toNat < magnitude d then reportActivity i t else t

/-- The run count after a sample while coasting (R27). -/
def stillRun (threshold samples run : Nat) (d : BitVec 16) : Nat :=
  if magnitude d ≤ threshold then min samples (run + 1) else 0

/-- A sample while coasting: the run count works toward standstill, reported once when it is reached (R27). -/
def sampleCoasting (i : LpId) (d : BitVec 16) (s : State) : State :=
  let u := s.units[i]
  let b := s.block i
  let run := stillRun b.standstillThreshold.toNat b.standstillSamples.toNat u.runCount d
  let t := s.setUnit i { u.sampled d with runCount := run }
  if run = b.standstillSamples.toNat ∧ u.runCount < run then reportStandstill i t else t

/-- The idle timer is counting toward expiry: armed, not yet expired, and not held by a loaded LOAD_LEVEL unit
(R30, R31). -/
def State.idleCounting (s : State) (i : LpId) : Bool :=
  s.units[i].armed && !s.units[i].expiryReported &&
    !(s.unitMode i == .loadLevel && s.units[i].loaded == some true)

/-! ### The commands -/

/-- ACT_FIRST_LEVEL (R19). -/
def execActFirstLevel (i : LpId) (high : Bool) (s : State) : Outcome State Fault Refusal :=
  .next (if s.loaded && s.lines[i].act.isNone then actFirst i high s else s)

/-- STROKE_EDGE (R20). -/
def execStrokeEdge (i : LpId) (high : Bool) (s : State) : Outcome State Fault Refusal :=
  .next (actEdge [.stroke] (countStroke i high) i high s)

/-- LOAD_LEVEL_CHANGE (R21). -/
def execLoadLevelChange (i : LpId) (high : Bool) (s : State) : Outcome State Fault Refusal :=
  .next (actEdge [.loadLevel] (changeLoad i high) i high s)

/-- QUADRATURE_EDGE: an edge of phase A at a ROTATION load point, of phase B at its PAIRED partner (R22). -/
def execQuadratureEdge (i : LpId) (high : Bool) (s : State) : Outcome State Fault Refusal :=
  .next (actEdge [.rotation, .paired] (stepPosition i high) i high s)

/-- BOTH_PHASES_CHANGE at the ROTATION load point: the new pair of levels is taken, the position stays (R23). Where
one of the two levels is the one its line already has, the other is taken in the same way, with no step counted. At a
load point that is not ROTATION the command changes nothing, neither of the two levels either, unlike the command of a
single edge (log entry 8). -/
def execBothPhasesChange (i : LpId) (highA highB : Bool) (s : State) : Outcome State Fault Refusal :=
  .next (if s.loaded && s.unitMode i == .rotation then setAct (partner i) highB (setAct i highA s) else s)

/-- ROTATION_SAMPLE (R24 to R27). -/
def execRotationSample (i : LpId) (s : State) : Outcome State Fault Refusal :=
  .next
    (if s.unitMode i = .rotation then
      let d := s.units[i].count - s.units[i].lastPosition
      if s.units[i].coasting then sampleCoasting i d s else sampleMoving i d s
    else s)

/-- IDLE_TIMER_DECREASE; the decrease that brings the timer to 0 reports idle expiry (R30, R31). -/
def execIdleTimerDecrease (i : LpId) (s : State) : Outcome State Fault Refusal :=
  .next
    (if s.idleCounting i then
      if s.units[i].idle ≤ 1 then reportExpiry i s
      else s.setUnit i { s.units[i] with idle := s.units[i].idle - 1 }
    else s)

/-- IDLE_EXPIRY: the decrease to 0 has come. A timer that activity has reloaded first does not expire (R31, R40; log
entry 7). -/
def execIdleExpiry (i : LpId) (s : State) : Outcome State Fault Refusal :=
  .next (if s.idleCounting i && decide (s.units[i].idle ≤ 1) then reportExpiry i s else s)

end Sys2Proof.Machine
end

