-- ==== Sys2Proof/Machine/Channels.lean ====
section
/-! DEFINITION. The load point channels' own events (chapter 3): the machine's lines, and the timers of a channel.
A timer's expiry acts while that timer runs; a cancelled timer does not expire (log entry 7). -/

namespace Sys2Proof.Machine

open Host

/-! ### Lines -/

/-- RUNn rises: the settle timer runs in STARTING (R55); the rest follows from the line. -/
def runRises (i : LpId) (s : State) : State :=
  let t := s.setLines i { s.lines[i] with run := some true }
  let c := t.chans[i]
  settle (if c.state = .starting then
      t.setChan i { c with startT := .off, settleT := startAt (seconds (t.block i).startSettle.toNat) }
    else t)

/-- RUNn drops: the start timer runs again from full in STARTING (R55); the rest follows from the line. -/
def runDrops (i : LpId) (s : State) : State :=
  let t := s.setLines i { s.lines[i] with run := some false }
  let c := t.chans[i]
  settle (if c.state = .starting then
      t.setChan i { c with settleT := .off, startT := startAt (seconds (t.block i).startTimeout.toNat) }
    else t)

def setGrant (i : LpId) (present : Bool) (s : State) : State :=
  settle (s.setLines i { s.lines[i] with grant := some present })

/-- HANDn is asserted: MANUAL from any state of an in-use load point (R56). -/
def handAsserts (i : LpId) (s : State) : State :=
  let t := s.setLines i { s.lines[i] with hand := some true }
  if t.inUse i then settle (enter i .manual t) else t

/-- The state a load point leaves MANUAL for (R56). -/
def afterHand (c : Chan) : LpState := if c.lockout = .none then .running else .lockout

/-- HANDn is released: MANUAL ends, and a load point that HANDn held in RUNNING goes on (R39, R56; log entry 19). A
load point that was put in EXCLUDED while HANDn was asserted stays there, since INCLUDE and DAY alone end EXCLUDED
(R57; log entry 38). -/
def handReleases (i : LpId) (s : State) : State :=
  let t := s.setLines i { s.lines[i] with hand := some false }
  settle (if t.chans[i].state = .manual then enter i (afterHand t.chans[i]) t else t)

/-- A level of STOPRBn: the watch starts or is cancelled against the commanded level (R59). -/
def setStoprb (i : LpId) (asserted : Bool) (s : State) : State :=
  let t := s.setLines i { s.lines[i] with stoprb := some asserted }
  if t.inUse i then t.setChan i { t.chans[i] with watch := judgedWatch t.chans[i] (some asserted) } else t

/-- LINE_FIRST_LEVEL: the first level is taken as an edge from the initial reading (R65). -/
def execLineFirstLevel (line : LpLine) (i : LpId) (present : Bool) (s : State) : Outcome State Fault Refusal :=
  .next
    (if s.loaded then
      match line with
      | .run =>
        if s.lines[i].run.isSome then s
        else if present then runRises i s
        else s.setLines i { s.lines[i] with run := some false }
      | .grant =>
        if s.lines[i].grant.isSome then s
        else if present then setGrant i true s
        else s.setLines i { s.lines[i] with grant := some false }
      | .hand =>
        if s.lines[i].hand.isSome then s
        else if present then handAsserts i s
        else s.setLines i { s.lines[i] with hand := some false }
      | .stoprb => if s.lines[i].stoprb.isSome then s else setStoprb i present s
    else s)

/-- RUN_RISE (R38, R50, R55). -/
def execRunRise (i : LpId) (s : State) : Outcome State Fault Refusal :=
  .next (if s.loaded && !s.runPresent i then runRises i s else s)

/-- RUN_DROP (R38, R46, R55). -/
def execRunDrop (i : LpId) (s : State) : Outcome State Fault Refusal :=
  .next (if s.loaded && s.runPresent i then runDrops i s else s)

/-- GRANT_RISE (R44). -/
def execGrantRise (i : LpId) (s : State) : Outcome State Fault Refusal :=
  .next (if s.loaded && !s.grantPresent i then setGrant i true s else s)

/-- GRANT_DROP (R50). -/
def execGrantDrop (i : LpId) (s : State) : Outcome State Fault Refusal :=
  .next (if s.loaded && s.grantPresent i then setGrant i false s else s)

/-- HAND_ASSERTED (R56). -/
def execHandAsserted (i : LpId) (s : State) : Outcome State Fault Refusal :=
  .next (if s.loaded && !s.handPresent i then handAsserts i s else s)

/-- HAND_RELEASED (R56). -/
def execHandReleased (i : LpId) (s : State) : Outcome State Fault Refusal :=
  .next (if s.loaded && s.handPresent i then handReleases i s else s)

/-- STOPRB_EDGE (R59). -/
def execStoprbEdge (i : LpId) (asserted : Bool) (s : State) : Outcome State Fault Refusal :=
  .next (if s.loaded && s.lines[i].stoprb != some asserted then setStoprb i asserted s else s)

/-! ### Timers -/

/-- READ_BACK_WATCH_EXPIRY: the driver is stuck (R59, R156). -/
def execReadBackWatchExpiry (i : LpId) (s : State) : Outcome State Fault Refusal :=
  .next
    (if s.chans[i].watch.isRunning then
      let t := (reportLp i .outputStuck true s).raise .outputStuck
      let t := t.setChan i { t.chans[i] with lockout := .hard, watch := .off }
      if t.chans[i].state = .manual then t else settle (enter i .lockout t)
    else s)

/-- A stop attempt refused under HANDSHAKE (R45): the count falls, and R39 or exhaustion follows. -/
def refuseAttempt (i : LpId) (s : State) : State :=
  let left := s.chans[i].retry - 1
  let t := s.setChan i { s.chans[i] with retry := left }
  if 0 < left then enter i .running t
  else if (s.block i).reportOnExhaust == 1 then lockSoft i .grantRefused t
  else (enter i .excluded (t.setChan i { t.chans[i] with autoOff := true })).raise .exhausted

/-- STOP_TIMER_EXPIRY (R45, R46, R64). -/
def execStopTimerExpiry (i : LpId) (s : State) : Outcome State Fault Refusal :=
  .next
    (if s.chans[i].state = .stopRequested ∧ s.chans[i].stopT.isRunning then
      settle (if (s.block i).isHandshake then refuseAttempt i s else lockSoft i .stopNotSeen s)
    else s)

/-- COAST_TIMER_EXPIRY: reported once, coasting continues (R48). -/
def execCoastTimerExpiry (i : LpId) (s : State) : Outcome State Fault Refusal :=
  .next
    (if s.chans[i].state = .coasting ∧ s.chans[i].coastT.isRunning then
      let t := reportLp i .coastOverrun false s
      t.setChan i { t.chans[i] with coastT := .off, overrun := true }
    else s)

/-- START_TIMER_EXPIRY (R55). -/
def execStartTimerExpiry (i : LpId) (s : State) : Outcome State Fault Refusal :=
  .next
    (if s.chans[i].state = .starting ∧ s.chans[i].startT.isRunning then settle (lockSoft i .startNotSeen s)
    else s)

/-- SETTLE_TIMER_EXPIRY (R55). -/
def execSettleTimerExpiry (i : LpId) (s : State) : Outcome State Fault Refusal :=
  .next
    (if s.chans[i].state = .starting ∧ s.chans[i].settleT.isRunning then settle (enter i .running s)
    else s)

/-- RUN_ON_EXPIRY (R42). -/
def execRunOnExpiry (i : LpId) (s : State) : Outcome State Fault Refusal :=
  .next
    (if s.chans[i].state = .stopPending ∧ s.chans[i].runOnT.isRunning then
      settle (s.setChan i { s.chans[i] with runOnT := .off, runOnDone := true })
    else s)

/-- LEAD_TIMER_EXPIRY (R53). -/
def execLeadTimerExpiry (i : LpId) (s : State) : Outcome State Fault Refusal :=
  .next
    (if s.chans[i].state = .startPending ∧ s.chans[i].leadT.isRunning then
      settle (s.setChan i { s.chans[i] with leadT := .expired })
    else s)

end Sys2Proof.Machine
end

