-- ==== Sys2Proof/Machine/Peers.lean ====
section
/-! DEFINITION. The peer table (chapter 5): taking a frame into an entry, page assembly and the plan check, view
overflow, and the address conflict a received frame can show (R80). -/

namespace Sys2Proof.Machine

/-- The most entries the table holds (R92). -/
def tableCapacity : Nat := 32

/-- The values an entry is created with (R91). -/
def PeerEntry.created (address : Byte) : PeerEntry :=
  { address, freshness := .fresh, planState := .unchecked, mode := none, night := false, interval := none,
    lastSeq := none, missed := 0, age := .off, figures := [], topAlert := none, viewOverflow := false,
    isolated := false, planHeard := none, lastToggle := none, assembly := none, answerHold := .off }

/-- Put an entry at its place in ascending address order, in place of the entry of that address. -/
def placeEntry (e : PeerEntry) : List PeerEntry → List PeerEntry
  | [] => [e]
  | x :: xs =>
    if e.address < x.address then e :: x :: xs
    else if e.address = x.address then e :: xs
    else x :: placeEntry e xs

def findEntry (a : Byte) (es : List PeerEntry) : Option PeerEntry := es.find? fun e => e.address == a
def dropEntry (a : Byte) (es : List PeerEntry) : List PeerEntry := es.filter fun e => e.address != a
def mapEntry (a : Byte) (f : PeerEntry → PeerEntry) (es : List PeerEntry) : List PeerEntry :=
  es.map fun e => if e.address = a then f e else e

def State.withEntries (s : State) (es : List PeerEntry) : State := s.withPeers { s.peers with entries := es }

/-- The age time of an entry: 4 × its interval, or 4 × the station's own while it is absent (R93). -/
def ageUs (ownSecs : Nat) (e : PeerEntry) : Nat := seconds (4 * e.interval.getD ownSecs)

/-- A frame has been taken into an entry: it is FRESH and its age timer restarts (R93). -/
def PeerEntry.refreshed (ownSecs : Nat) (e : PeerEntry) : PeerEntry :=
  { e with freshness := .fresh, age := startAt (ageUs ownSecs e) }

/-! ### Beacons (R94, R95) -/

/-- The sender restarted: its plan is to be checked again (R94). -/
def PeerEntry.restarted (e : PeerEntry) : PeerEntry :=
  { e with planState := .unchecked, lastToggle := none, assembly := none, answerHold := .off }

/-- A LISTEN_IN beacon taken into an entry whose mode was anything else marks a restart of the sender (R94). -/
def marksRestart (msg : BeaconMsg) (e : PeerEntry) : Bool := msg.mode == .listenIn && e.mode != some .listenIn

/-- The beacons missed between two sequences (R95). -/
def gapOf (last seq : Byte) : Nat := if seq = last then 0 else (seq - last - 1).toNat

/-- Take a beacon into an entry (R94, R95). -/
def takeBeacon (seq : Byte) (msg : BeaconMsg) (e : PeerEntry) : PeerEntry :=
  let mark := marksRestart msg e
  let e := if mark then e.restarted else e
  { e with
    mode := some msg.mode, night := msg.nightLine, interval := some (intervalOf msg.interval),
    topAlert := topAlertOf msg.alertClass msg.alertLevel, viewOverflow := msg.viewOverflow,
    isolated := msg.isolated, figures := (figuresOf msg.figures).getD e.figures, lastSeq := some seq,
    missed := match e.lastSeq with
      | some l => if mark then e.missed else min 255 (e.missed + gapOf l seq)
      | none => e.missed }

/-! ### Plan pages (R96 to R98) -/

/-- A complete assembly equals the station's own held plan, field by field (R97). -/
def planEqual (c : Configuration) (head : PlanBlock) (services : List ServiceBlock) : Bool :=
  c.plan == head && c.services.toList == services

/-- The plan check of a completed assembly; in PASSIVE the plan state stays (R97, R98). -/
def PeerEntry.checked (own : Option Configuration) (a : Assembly) (services : List ServiceBlock)
    (e : PeerEntry) : PeerEntry :=
  { e with
    planHeard := some a.head.planNumber, lastToggle := some a.toggle, assembly := none,
    planState := match own with
      | some c => if planEqual c a.head (a.services ++ services) then .matched else .mismatched
      | none => e.planState }

/-- Take a page into an entry; the first case of R96 that fits applies. -/
def takePage (own : Option Configuration) (toggle : Byte) (page : PlanPage) (e : PeerEntry) : PeerEntry :=
  match page with
  | .first head svcs =>
    if e.lastToggle = some toggle then e
    else { e with assembly := some { toggle, next := 1, head, services := pageServices svcs } }
  | .later p svcs =>
    if e.lastToggle = some toggle ∨ 2 < p.toNat then e
    else match e.assembly with
      | some a =>
        if a.toggle = toggle ∧ a.next = p.toNat then
          (if p.toNat = 1 then
            { e with assembly := some { a with next := 2, services := a.services ++ pageServices svcs } }
          else e.checked own a (pageServices svcs))
        else { e with assembly := none }
      | none => e

/-! ### Taking a peer's frame (R79, R92, R93, R99) -/

/-- The silence timer restarts while isolation is assessed, and the heard mark is set (R79, R81, R82). -/
def heardPeer (s : State) : State :=
  s.withLink { s.link with
    silence := if s.assessesIsolation then startAt s.isolationUs else s.link.silence, heard := true }

/-- A frame is turned away from a full table: the overflow timer (re)starts; entry into the condition sets
VIEW_OVERFLOW (R92, R99). -/
def rejectFrame (s : State) : State :=
  let t := s.withPeers { s.peers with overflow := startAt s.isolationUs }
  if s.viewOverflow then t else t.raise .viewOverflow

/-- The entry after a frame; PLAN_MISMATCH is set when it becomes MISMATCHED (R97). -/
def storeEntry (before after : PeerEntry) (s : State) : State :=
  let e := after.refreshed s.statusSecs
  let t := s.withEntries (placeEntry e s.peers.entries)
  if after.planState = .mismatched ∧ before.planState ≠ .mismatched then t.raise .planMismatch else t

/-- Take a peer's frame into the table; `f` is what the frame does to the sender's entry (R92). -/
def takeFrame (src : Byte) (f : PeerEntry → PeerEntry) (s : State) : State :=
  match findEntry src s.peers.entries with
  | some e => storeEntry e (f e) s
  | none =>
    if s.peers.entries.length < tableCapacity then
      storeEntry (PeerEntry.created src) (f (PeerEntry.created src)) s
    else rejectFrame s

/-- The plan-request trigger of R90, once the beacon has been taken. -/
def answerRequest (src : Byte) (msg : BeaconMsg) (s : State) : State :=
  if msg.planRequest && s.beaconing then
    match findEntry src s.peers.entries with
    | some e =>
      if e.planState ≠ .matched ∧ e.answerHold = .off then
        announce (s.withEntries (mapEntry src (fun e => { e with answerHold := startAt s.isolationUs })
          s.peers.entries))
      else s
    | none =>
      if s.peers.sharedHold = .off then
        announce (s.withPeers { s.peers with sharedHold := startAt s.isolationUs })
      else s
  else s

/-! ### Address conflict (R80, R150) -/

/-- The station enters ADDRESS_CONFLICT: it transmits no more, isolation is no longer assessed, and an entry from
LISTEN_IN decides the plant mode. -/
def enterConflict (s : State) : State :=
  let listening := s.listening
  let t := (s.withMode { s.mode with station := some .addressConflict, isolated := false, beaconT := .off,
                                     listenIn := .off }).raise .addressConflict
  let t := t.withLink { s.link.dropAll with silence := .off, heard := false }
  let t := t.withRound { s.round with outstanding := none }
  if listening then decideMode t else t

/-- An accepted frame with the station's own address as source (R80). -/
def ownAddressFrame (s : State) : State :=
  if s.beaconing then settle (enterConflict s) else s

/-- How a whole frame from a station source is taken: refused for its form, shown to be a second station with the own
address, or taken from a peer by `k` (R71, R78 to R80). The balance is judged, and the night signal formed, once, on
the inputs as the whole frame leaves them (R108, R109, R146; log entries 43 and 46). -/
def fromStation (src : Byte) (formOk : Bool) (k : State → State) (s : State) : State :=
  if s.receiving then
    let t := frameEnd s
    if isStation src && formOk then
      if s.station.address = some src then ownAddressFrame (accept t)
      else settle (k (heardPeer (accept t)))
    else countFormatError t
  else frameMissed s

end Sys2Proof.Machine
end

