-- ==== Sys2Proof/Machine/LinkEvents.lean ====
section
/-! DEFINITION. The link controller's events (chapter 4): attempts, contention, completion, and receptions that
are dropped or accepted. -/

namespace Sys2Proof.Machine

open Host

/-! ### Sending -/

/-- The own attempt starts once the line is idle and no backoff runs: a frame that waits defers to a frame that has
begun, until that has ended and the line is idle again (R73). -/
def ownStarts (s : State) : State :=
  match s.link.inProgress with
  | some t =>
    if t.phase = .waiting ∧ s.link.lineIdle = true then
      s.withLink ({ s.link with lineIdle := false }.rephase fun _ => .sending)
    else s
  | none => s

/-- ATTEMPT_START, of this station or of another sender (R67, R73, R77; log entries 6 and 36). -/
def execAttemptStart (s : State) (sender : Sender := .own) : Outcome State Fault Refusal :=
  .next
    (match sender with
    | .own => ownStarts s
    | .other => otherStarts s)

/-- The backoff drawn after the attempt count has risen to `n`: the low k bits of the draw, k the smaller of the
count and 5 (R75). -/
def drawnSlots (n : Nat) (draw : BitVec 5) : Nat := draw.toNat % 2 ^ min n 5

/-- The block that handed an abandoned frame hears of it (R90, R121). -/
def reportAbandoned (o : Origin) (s : State) : State :=
  match o with
  | .beacon triggers => beaconOutcome triggers s
  | .intent => s.withRound { s.round with outstanding := none }
  | .page _ => s
  | .reply => s

/-- The eighth lost attempt: the frame is abandoned, the pages behind a page go with it, and an abandon run of 3
isolates the station (R76, R81). The block hears of the frame first, so that an announcement handed then, or a waiting
frame taken behind it, comes before the recall of an INTENT frame by the isolation (R90, R122; log entry 41). -/
def abandon (t : Sending) (s : State) : State :=
  let l := s.link
  let isPage := match t.out.origin with
    | .page _ => true
    | _ => false
  let s := s.withLink { l with
    inProgress := none, pagesLeft := if isPage then [] else l.pagesLeft, abandonRun := l.abandonRun + 1,
    counters := { l.counters with abandoned := countUp l.counters.abandoned } }
  let s := reportAbandoned t.out.origin s
  let s := if s.assessesIsolation && !s.mode.isolated && decide (3 ≤ s.link.abandonRun) then enterIsolated s
    else s
  settle (s.withLink s.link.takeNext)

/-- Whether the line is idle after a lost attempt: a first start bit that never reached it has left it idle, and any
other attempt has had a dominant bit on it (R67, R73). -/
def leavesIdle : Loss → Bool
  | .startUndriven => true
  | .toSender | .laterUndriven => false

/-- Where the frame stands after a lost attempt below the eighth: its backoff starts at the end of the winner's frame,
or at the moment of a loss against the own driver (R75). -/
def phaseAfterLoss (loss : Loss) (slots : Nat) : TxPhase :=
  match loss with
  | .toSender => .lostAwaitingEnd slots
  | .startUndriven | .laterUndriven => backoffFrom (leavesIdle loss) slots

/-- The link right after a lost attempt: counted, and the frame whose bits stand on the line collected from its first
start bit, as every other receiver collects it. A first start bit that never reached the line has begun no frame and
leaves the line idle (R67, R74, R77; log entry 14). -/
def Link.lost (l : Link) (loss : Loss) : Link :=
  { l with
    lineIdle := leavesIdle loss, collecting := l.collecting || !leavesIdle loss,
    counters := { l.counters with lostContentions := countUp l.counters.lostContentions } }

/-- LOST_CONTENTION (R74 to R77). -/
def execLostContention (loss : Loss) (draw : BitVec 5) (s : State) : Outcome State Fault Refusal :=
  .next
    (match s.link.inProgress with
    | some t =>
      if t.phase = .sending then
        let n := t.attempts + 1
        let l := s.link.lost loss
        if 8 ≤ n then abandon { t with attempts := n } (s.withLink l)
        else
          let phase := phaseAfterLoss loss (drawnSlots n draw)
          s.withLink { l with
            lineIdle := l.lineIdle && phase != .sending, inProgress := some { t with attempts := n, phase } }
      else s
    | none => s)

/-- BACKOFF_EXPIRY: the next attempt starts at once when the line is idle (R75). -/
def execBackoffExpiry (s : State) : Outcome State Fault Refusal :=
  .next
    (match s.link.inProgress with
    | some { phase := .backingOff _, .. } =>
      s.withLink ({ s.link with lineIdle := false }.rephase fun _ =>
        if s.link.lineIdle then .sending else .waiting)
    | _ => s)

/-- The block that handed a completed frame hears of it (R90, R126). -/
def reportCompleted (o : Origin) (s : State) : State :=
  match o with
  | .beacon triggers => beaconOutcome triggers s
  | .intent => ownIntentTaken s
  | .page _ => s
  | .reply => s

/-- FRAME_COMPLETED (R74, R76, R82). The block hears of the frame, and the pages of an announcement that its outcome
calls for are handed, before the link takes its next frame: R72, R74 and R90 put these in one event and give no order
(log entry 44). -/
def execFrameCompleted (s : State) : Outcome State Fault Refusal :=
  .next
    (match s.link.inProgress with
    | some t =>
      if t.phase = .sending then
        let s := s.withLink { s.link with inProgress := none, abandonRun := 0, lineIdle := false }
        let s := if s.mode.isolated && s.link.heard then leaveIsolated s else s
        let s := reportCompleted t.out.origin s
        settle (s.withLink s.link.takeNext)
      else s
    | none => s)

/-- LINE_IDLE (R67, R75, R77). -/
def execLineIdle (s : State) : Outcome State Fault Refusal :=
  .next
    (let l := { s.link with lineIdle := !s.link.isSending, collecting := false, awaitIdle := false }
    s.withLink
      (match l.inProgress with
      | some { phase := .lostAwaitingIdle n, .. } =>
        { l with lineIdle := n ≠ 0 }.rephase fun _ => backoffFrom true n
      | _ => l))

/-! ### Receptions -/

/-- RECEPTION_ENDED_EARLY: a format error, and the receiver waits for an idle line (R75, R77, R78). A truncation whose
tenth recessive bit makes the line idle at the same moment comes before that LINE_IDLE (log entry 42). -/
def execReceptionEndedEarly (s : State) : Outcome State Fault Refusal :=
  .next
    (if s.receiving then
      let t := s.withLink ({ s.link.lineEnds with awaitIdle := true }.rephase fun
        | .lostAwaitingEnd n => .lostAwaitingIdle n
        | p => p)
      countFormatError t
    else frameMissed s)

/-- CRC_ERROR (R78). -/
def execCrcError (s : State) : Outcome State Fault Refusal :=
  .next (if s.receiving then countCrcError (frameEnd s) else frameMissed s)

/-- FORMAT_ERROR (R78). -/
def execFormatError (s : State) : Outcome State Fault Refusal :=
  .next (if s.receiving then countFormatError (frameEnd s) else frameMissed s)

/-- BEACON from a station (R79, R90, R94). -/
def execBeacon (src seq : Byte) (msg : BeaconMsg) (s : State) : Outcome State Fault Refusal :=
  .next (fromStation src (decide (msg.figures.length ≤ 12))
    (fun t => answerRequest src msg (takeFrame src (takeBeacon seq msg) t)) s)

/-- PLAN page from a station (R96 to R98). -/
def execPlan (src toggle : Byte) (page : PlanPage) (s : State) : Outcome State Fault Refusal :=
  .next (fromStation src page.lengthOk (fun t => takeFrame src (takePage t.config toggle page) t) s)

/-- INTENT from a station: the table takes the frame, then the round evaluator (R79, R128). -/
def execIntent (src heard : Byte) (entries : List RawEntry) (s : State) : Outcome State Fault Refusal :=
  .next (fromStation src (decide (1 ≤ entries.length ∧ entries.length ≤ 4))
    (fun t => takeIntent src heard entries (takeFrame src id t)) s)

/-- REPLY of another station: heard, and no more (R79). -/
def execReply (src : Byte) (s : State) : Outcome State Fault Refusal :=
  .next (fromStation src true (takeFrame src id) s)

/-- FOREIGN_TOOL_FRAME: counted, and no more (R79). -/
def execForeignToolFrame (s : State) : Outcome State Fault Refusal :=
  .next (if s.receiving then accept (frameEnd s) else frameMissed s)

/-- ADDRESS_CONFLICT: an accepted frame with the station's own address as source (R80, R150). -/
def execAddressConflict (s : State) : Outcome State Fault Refusal :=
  .next (if s.receiving && s.station.address.isSome then ownAddressFrame (accept (frameEnd s)) else frameMissed s)

end Sys2Proof.Machine
end

