-- ==== Sys2Proof/Machine/Modes.lean ====
section
/-! DEFINITION. The mode controller's events (chapters 5 and 8), the balance timers (chapter 6) and the uptime. -/

namespace Sys2Proof.Machine

open Host

/-- Entry into LISTEN_IN: the consequences of what came before are taken, then the listen-in and beacon timers
start and the first beacon is handed (R85, R144). -/
def beginListening (s : State) : State :=
  let t := settle (s.withMode { s.mode with station := some .listenIn })
  handBeacon true (t.withMode { t.mode with
    listenIn := startAt t.listenInUs, beaconT := startAt (seconds t.statusSecs) })

/-- A NIGHT level; the night signal is formed again and the plant mode may follow (R142, R146, R147). -/
def setNight (asserted : Bool) (s : State) : State :=
  settle (s.withMode { s.mode with nightLevel := some asserted })

/-- UPTIME_TICK (R163). -/
def execUptimeTick (s : State) : Outcome State Fault Refusal :=
  .next (s.withFaults { s.faults with uptime := s.faults.uptime + 1 })

/-- NIGHT_FIRST_LEVEL (R142). -/
def execNightFirstLevel (asserted : Bool) (s : State) : Outcome State Fault Refusal :=
  .next (if s.loaded && s.mode.nightLevel.isNone then setNight asserted s else s)

/-- NIGHT_EDGE (R142, R146). -/
def execNightEdge (asserted : Bool) (s : State) : Outcome State Fault Refusal :=
  .next (if s.loaded && s.mode.nightLevel != some asserted then setNight asserted s else s)

/-- LISTEN_IN ends at its time: ACTIVE, with the plant mode decided from the night signal (R145). -/
def endListening (s : State) : State :=
  settle (decideMode (s.withMode { s.mode with station := some .active, listenIn := .off }))

/-- LISTEN_IN_TIMER_EXPIRY (R145). -/
def execListenInTimerExpiry (s : State) : Outcome State Fault Refusal :=
  .next (if s.listening && s.mode.listenIn.isRunning then endListening s else s)

/-- The beacon timer has expired: a beacon is handed and the timer restarts (R85). -/
def nextBeacon (s : State) : State :=
  handBeacon false (s.withMode { s.mode with beaconT := startAt (seconds s.statusSecs) })

/-- BEACON_TIMER_EXPIRY; a listen-in timer that has run out in the same event is taken first (R85, R145). -/
def execBeaconTimerExpiry (s : State) : Outcome State Fault Refusal :=
  .next
    (if s.beaconing && s.mode.beaconT.isRunning then
      nextBeacon (if s.listening ∧ s.mode.listenIn = .running 0 then endListening s else s)
    else s)

/-- SURPLUS_TIMER_EXPIRY (R109, R110). -/
def execSurplusTimerExpiry (i : LpId) (s : State) : Outcome State Fault Refusal :=
  .next
    (if s.provs[i].timer.isRunning then
      settle (s.setProv i { s.provs[i] with timer := .expired, established := true })
    else s)

/-- SHORTFALL_TIMER_EXPIRY (R112, R113). -/
def execShortfallTimerExpiry (v : SvcId) (s : State) : Outcome State Fault Refusal :=
  .next
    (if s.svcs[v].timer.isRunning then
      settle (s.setSvc v { s.svcs[v] with timer := .expired, confirmed := true })
    else s)

/-- SILENCE_TIMER_EXPIRY: entry into ISOLATED; while ISOLATED the timer only stays expired (R81). -/
def execSilenceTimerExpiry (s : State) : Outcome State Fault Refusal :=
  .next
    (if s.assessesIsolation && s.link.silence.isRunning then
      let t := s.withLink { s.link with silence := .expired }
      if t.mode.isolated then t else settle (enterIsolated t)
    else s)

/-- AGE_TIMER_EXPIRY: the entry becomes STALE and its assembly is discarded (R93). -/
def execAgeTimerExpiry (a : Byte) (s : State) : Outcome State Fault Refusal :=
  .next
    (if s.peers.entries.any fun e => e.address == a && e.age.isRunning then
      settle (s.withEntries (mapEntry a (fun e => { e with freshness := .stale, age := .off, assembly := none })
        s.peers.entries))
    else s)

/-- OVERFLOW_TIMER_EXPIRY: the view-overflow condition ends (R99). -/
def execOverflowTimerExpiry (s : State) : Outcome State Fault Refusal :=
  .next
    (if s.viewOverflow then settle (s.withPeers { s.peers with overflow := .off }) else s)

/-- ANSWER_HOLD_EXPIRY (R90). -/
def execAnswerHoldExpiry (a : Byte) (s : State) : Outcome State Fault Refusal :=
  .next (s.withEntries (mapEntry a (fun e => { e with answerHold := .off }) s.peers.entries))

/-- SHARED_ANSWER_HOLD_EXPIRY (R90). -/
def execSharedAnswerHoldExpiry (s : State) : Outcome State Fault Refusal :=
  .next (s.withPeers { s.peers with sharedHold := .off })

/-- ROUND_CLOSE: the window timer expires (R124). -/
def execRoundClose (s : State) : Outcome State Fault Refusal :=
  .next (if s.round.phase = .opened then settle (closeRound s) else s)

/-- GUARD_EXPIRY: the round is CLOSED with its counts and marks at their CLOSED values (R125). -/
def execGuardExpiry (s : State) : Outcome State Fault Refusal :=
  .next
    (if s.round.phase = .guarding then
      settle (s.withRound { s.round with
        phase := .closed, guardT := .off, heard := 0, refused := 0, doubtful := false })
    else s)

end Sys2Proof.Machine
end

