-- ==== Sys2Proof/Machine/Loader.lean ====
section
/-! DEFINITION. The configuration loader (chapter 1): reading the image's blocks, the five check phases, the
clamps, the outcome of a load, and the loader's commands. -/

namespace Sys2Proof.Machine

open Host

/-! ### Reading the body (section 11.5) -/

def serviceAt (body : List Byte) (o : Nat) : ServiceBlock :=
  { inUse := byteAt body o, margin := byteAt body (o + 1), cmin := halfAt body (o + 2),
    surplusHold := halfAt body (o + 4), shortfallConfirm := byteAt body (o + 6) }

def planAt (body : List Byte) : PlanBlock :=
  { planNumber := halfAt body 13, w := halfAt body 15, g := halfAt body 17, b := halfAt body 19 }

def lpAt (body : List Byte) (i : LpId) : LpBlock :=
  let o := 105 + 34 * i.val
  let b (k : Nat) : Byte := byteAt body (o + k)
  let h (k : Nat) : Half := halfAt body (o + k)
  { inUse := b 0, control := b 1, activityMode := b 2, edge := b 3, loadPolarity := b 4, idleLimit := h 5,
    level := b 7, leader := b 8, runOn := h 9, leadTime := h 11, provides := b 13, capacity := h 14,
    startSettle := b 16, pairCount := b 17, pair0 := ⟨b 18, b 19⟩, pair1 := ⟨b 20, b 21⟩,
    pair2 := ⟨b 22, b 23⟩, inrush := b 24, grantTimeout := b 25, feedbackTimeout := b 26, retries := b 27,
    reportOnExhaust := b 28, coastLimit := h 29, standstillThreshold := b 31, standstillSamples := b 32,
    startTimeout := b 33 }

/-- The blocks of a body as stored. -/
structure RawImage where
  station : Vector Byte 13
  plan : PlanBlock
  services : Vector ServiceBlock 12
  lps : Vector LpBlock 8
  deriving DecidableEq, Repr

def rawImage (body : List Byte) : RawImage :=
  { station := Vector.ofFn fun k => byteAt body k.val, plan := planAt body,
    services := Vector.ofFn fun v => serviceAt body (21 + 7 * v.val), lps := Vector.ofFn fun i => lpAt body i }

/-- The sum of a body's bytes modulo 65536 (R11). -/
def bodySum (body : List Byte) : Half := BitVec.ofNat 16 (body.map BitVec.toNat).sum

/-! ### Structural errors (R13): the first check that holds, in check order -/

/-- A structural error: its sub-code and the object it is found in. -/
abbrev StructError := Nat × ImageObject

def firstCheck (o : ImageObject) (checks : List (Bool × Nat)) : Option StructError :=
  (checks.find? Prod.fst).map fun c => (c.2, o)

def badFlag (b : Byte) : Bool := decide (1 < b.toNat)

/-- Phase 1, the station block. -/
def stationError (r : RawImage) : Option StructError :=
  firstCheck .station [(r.station[0] == 0 || decide (60 < r.station[0].toNat), 1), (badFlag r.station[2], 3)]

/-- Phase 2, the plan block. -/
def planError (r : RawImage) : Option StructError := firstCheck .plan [(r.plan.planNumber == 0, 2)]

/-- Phase 3, one service. -/
def serviceError (r : RawImage) (v : SvcId) : Option StructError :=
  firstCheck (.service v) [(badFlag r.services[v].inUse, 3)]

def rawSvcInUse (r : RawImage) (v : SvcId) : Bool := r.services[v].inUse == 1

/-- A service field, when it names a service, names one that is not in use. -/
def namesUnused (r : RawImage) (x : Byte) : Bool := (svcOfByte x).any fun v => !rawSvcInUse r v

/-- Phase 4, one load point on its own: CODE, INDEX, DEMAND_COUNT, INDEX of the demands, PROVIDER_CAPACITY,
SERVICE_UNUSED, DEMAND_DUPLICATE. -/
def lpError (r : RawImage) (i : LpId) : Option StructError :=
  let b := r.lps[i]
  if b.inUse == 0 then none else
  firstCheck (.loadPoint i)
    [(badFlag b.inUse, 3),
     (badFlag b.control, 3), (decide (4 < b.activityMode.toNat), 3),
     (b.mode == .stroke && decide (2 < b.edge.toNat), 3),
     (b.mode == .loadLevel && badFlag b.loadPolarity, 3),
     (badFlag b.reportOnExhaust, 3),
     (b.leader != 255 && decide (7 < b.leader.toNat), 4),
     (b.provides != 255 && decide (11 < b.provides.toNat), 4),
     (decide (3 < b.pairCount.toNat), 5),
     (b.pairs.any fun p => decide (11 < p.service.toNat), 4),
     (b.provides != 255 && b.capacity == 0, 6),
     (namesUnused r b.provides || b.pairs.any fun p => namesUnused r p.service, 7),
     (!(decide (b.pairs.map RawPair.service).Nodup), 8)]

/-- The in-use load point of that number has the given activity mode. -/
def partnerIs (r : RawImage) (i : LpId) (m : ActMode) : Bool :=
  r.lps[partner i].isInUse && r.lps[partner i].mode == m

/-- Phase 5, one load point: leaders and pairing. -/
def crossError (r : RawImage) (i : LpId) : Option StructError :=
  let b := r.lps[i]
  if !b.isInUse then none else
  firstCheck (.loadPoint i)
    [(b.leaderOf == some i, 9),
     (b.leaderOf.any fun l => !r.lps[l].isInUse, 10),
     (b.leaderOf.any fun l => r.lps[l].leaderOf.isSome, 11),
     (b.mode == .rotation && i.val % 2 == 1, 12),
     (b.mode == .rotation && !partnerIs r i .paired, 13),
     (b.mode == .paired && (i.val % 2 == 0 || !partnerIs r i .rotation), 14)]

/-- The first structural error of phases 2 to 5. -/
def laterError (r : RawImage) : Option StructError :=
  (planError r).or ((svcIds.findSome? (serviceError r)).or
    ((lpIds.findSome? (lpError r)).or (lpIds.findSome? (crossError r))))

/-! ### Clamps (R12) -/

/-- A clamp: the record and the byte offset of the field within it (section 11.3). -/
abbrev ClampMark := ImageObject × Nat

def clampTo (lo hi v : Nat) : Nat := max lo (min hi v)

/-- The mark a field leaves when it applies and lies out of range. -/
def clampMark (o : ImageObject) (offset : Nat) (applies : Bool) (lo hi v : Nat) : List ClampMark :=
  if applies && decide (v < lo ∨ hi < v) then [(o, offset)] else []

def clampByte (applies : Bool) (lo hi : Nat) (v : Byte) : Byte :=
  if applies then BitVec.ofNat 8 (clampTo lo hi v.toNat) else v

def clampHalf (applies : Bool) (lo hi : Nat) (v : Half) : Half :=
  if applies then BitVec.ofNat 16 (clampTo lo hi v.toNat) else v

/-- The station fields phase 1 gives, clamps included. -/
def clampStation (r : RawImage) : StationFields :=
  { address := some r.station[0], statusInterval := clampByte true 1 10 r.station[1],
    followPlantNight := r.station[2], alertThreshold := clampByte true 1 7 r.station[3],
    levels := Vector.ofFn fun k => clampByte true 0 7 r.station[4 + k.val] }

def stationMarks (r : RawImage) : List ClampMark :=
  clampMark .station 1 true 1 10 r.station[1].toNat ++ clampMark .station 3 true 1 7 r.station[3].toNat ++
  (List.finRange 9).flatMap fun k => clampMark .station (4 + k.val) true 0 7 r.station[4 + k.val].toNat

def clampPlan (p : PlanBlock) : PlanBlock :=
  { p with w := clampHalf true 100 2000 p.w, g := clampHalf true 100 2000 p.g, b := clampHalf true 1 1023 p.b }

def planMarks (p : PlanBlock) : List ClampMark :=
  clampMark .plan 2 true 100 2000 p.w.toNat ++ clampMark .plan 4 true 100 2000 p.g.toNat ++
  clampMark .plan 6 true 1 1023 p.b.toNat

/-- A service as it is held: an unused one with zeros (R1). -/
def clampService (b : ServiceBlock) : ServiceBlock :=
  if b.inUse == 1 then
    { b with margin := clampByte true 0 100 b.margin, surplusHold := clampHalf true 10 3600 b.surplusHold,
             shortfallConfirm := clampByte true 1 60 b.shortfallConfirm }
  else serviceBlank

def serviceMarks (v : SvcId) (b : ServiceBlock) : List ClampMark :=
  let u := b.inUse == 1
  clampMark (.service v) 1 u 0 100 b.margin.toNat ++ clampMark (.service v) 4 u 10 3600 b.surplusHold.toNat ++
  clampMark (.service v) 6 u 1 60 b.shortfallConfirm.toNat

/-- The units of a pair within the count are at least 1. -/
def clampPair (b : LpBlock) (k : Nat) (p : RawPair) : RawPair :=
  { p with units := clampByte (decide (k < b.pairCount.toNat)) 1 255 p.units }

/-- A load point record as it is held: fields that apply are clamped, others stay as stored (R9, R12). -/
def clampLp (b : LpBlock) : LpBlock :=
  if b.isInUse then
    { b with
      level := clampByte true 0 7 b.level
      idleLimit := clampHalf (b.mode != .paired) 10 7200 b.idleLimit
      runOn := clampHalf true 0 600 b.runOn
      leadTime := clampHalf true 0 600 b.leadTime
      capacity := clampHalf b.providesOf.isSome 1 4000 b.capacity
      pair0 := clampPair b 0 b.pair0
      pair1 := clampPair b 1 b.pair1
      pair2 := clampPair b 2 b.pair2
      grantTimeout := clampByte b.isHandshake 1 120 b.grantTimeout
      startTimeout := clampByte true 1 120 b.startTimeout
      startSettle := clampByte true 1 120 b.startSettle
      feedbackTimeout := clampByte (!b.isHandshake) 1 60 b.feedbackTimeout
      retries := clampByte true 1 7 b.retries
      coastLimit := clampHalf (b.mode == .rotation) 10 900 b.coastLimit
      standstillSamples := clampByte (b.mode == .rotation) 1 15 b.standstillSamples }
  else b

/-- The clamps of one load point, in the order of the table of R12 (log entry 10). -/
def lpMarks (i : LpId) (b : LpBlock) : List ClampMark :=
  if b.isInUse then
    let m := clampMark (.loadPoint i)
    m 7 true 0 7 b.level.toNat ++ m 5 (b.mode != .paired) 10 7200 b.idleLimit.toNat ++
    m 9 true 0 600 b.runOn.toNat ++ m 11 true 0 600 b.leadTime.toNat ++
    m 14 b.providesOf.isSome 1 4000 b.capacity.toNat ++
    m 19 (decide (0 < b.pairCount.toNat)) 1 255 b.pair0.units.toNat ++
    m 21 (decide (1 < b.pairCount.toNat)) 1 255 b.pair1.units.toNat ++
    m 23 (decide (2 < b.pairCount.toNat)) 1 255 b.pair2.units.toNat ++
    m 25 b.isHandshake 1 120 b.grantTimeout.toNat ++ m 33 true 1 120 b.startTimeout.toNat ++
    m 16 true 1 120 b.startSettle.toNat ++ m 26 (!b.isHandshake) 1 60 b.feedbackTimeout.toNat ++
    m 27 true 1 7 b.retries.toNat ++ m 29 (b.mode == .rotation) 10 900 b.coastLimit.toNat ++
    m 32 (b.mode == .rotation) 1 15 b.standstillSamples.toNat
  else []

/-- Every clamp of an image without a structural error, in check order. -/
def imageMarks (r : RawImage) : List ClampMark :=
  stationMarks r ++ planMarks r.plan ++ svcIds.flatMap (fun v => serviceMarks v r.services[v]) ++
  lpIds.flatMap fun i => lpMarks i r.lps[i]

def clampImage (r : RawImage) : Configuration :=
  { plan := clampPlan r.plan, services := Vector.ofFn fun v => clampService r.services[v],
    lps := Vector.ofFn fun i => clampLp r.lps[i] }

/-! ### The outcome (R14 to R16, R34, R36, R117, R143) -/

/-- How a load ends. A rejection may leave a usable station block. -/
inductive LoadOutcome where
  | accepted (station : StationFields) (config : Configuration) (marks : List ClampMark)
  | rejected (fault : FaultCode) (station : StationFields)
  deriving DecidableEq, Repr

/-- The checks of a body whose header has passed (R11, R13, R14). -/
def checkBody (sum : Half) (body : List Byte) : LoadOutcome :=
  if bodySum body ≠ sum then .rejected .imageSum StationFields.default
  else
    let r := rawImage body
    match stationError r, laterError r with
    | some e, _ => .rejected (.imageStructure e.1 e.2) StationFields.default
    | none, some e => .rejected (.imageStructure e.1 e.2) (clampStation r)
    | none, none => .accepted (clampStation r) (clampImage r) (imageMarks r)

/-- Every channel at the start of a configuration: in-use ones in RUNNING with their power-on values, the watch
beginning against the released stop request; the others UNUSED (R36, R59). -/
def startChans (s : State) : Vector Chan 8 :=
  Vector.ofFn fun i =>
    if s.inUse i then
      { Chan.powerOn .running (s.block i).retries.toNat with
        watch := freshWatch .none s.lines[i].stoprb false }
    else Chan.powerOn .unused 0

/-- Every unit at the start of a configuration: the cleared values, and the reading of a level the filter already
has (R34, R35). -/
def startUnits (s : State) : Vector ActUnit 8 :=
  Vector.ofFn fun i =>
    if s.unitMode i = .loadLevel then
      { ActUnit.cleared with loaded := s.lines[i].act.map (loadedReading (s.block i).loadPolarity) }
    else ActUnit.cleared

/-- The reply to a RESTART taken in PASSIVE, handed at the outcome (R170). -/
def answerRestart (s : State) : State :=
  match s.loader.replySeq with
  | some q => handReply q [kindDirective, 7, 2] (s.withLoader { s.loader with replySeq := none })
  | none => s

/-- The load ends (R14, R143). -/
def endLoad (o : LoadOutcome) (s : State) : State :=
  match o with
  | .accepted station config marks =>
    let s := (s.withConfig (some config)).withStation station
    let s := s.withLoader { s.loader with
      phase := .done, status := some (if marks.isEmpty then .good else .goodClamped),
      clampCount := min 255 marks.length, firstClamped := marks.head? }
    let s := if marks.isEmpty then s else reportLoad .clamped s
    let s := (s.withChans (startChans s)).withUnits (startUnits s)
    let s := (s.withSvcs (Vector.replicate 12 SvcBalance.clear)).withProvs (Vector.replicate 8 ProvBalance.clear)
    answerRestart (beginListening (s.withMode { s.mode with plant := .day }))
  | .rejected fault station =>
    let s := (s.withConfig none).withStation station
    let s := s.withLoader { s.loader with
      phase := .done, status := some .rejected, clampCount := 0, firstClamped := none }
    let s := reportLoad fault s
    let s := (s.withChans (Vector.replicate 8 (Chan.powerOn .unused 0))).withUnits
      (Vector.replicate 8 ActUnit.cleared)
    answerRestart (s.withMode { s.mode with station := some .passive, plant := .day })

/-- An attempt failed: a new one starts from the header, and the third ends the load (R10). -/
def attemptFails (s : State) : State :=
  if 2 ≤ s.loader.failures then endLoad (.rejected .imageMissing StationFields.default) s
  else s.withLoader { s.loader with phase := .header, failures := s.loader.failures + 1 }

/-! ### The commands -/

/-- POWER_ON: the values of power-on, with the loader about to read the header (R10, R84, R103, R140, R141,
R154). The commands that wait keep waiting. -/
def execPowerOn (s : State) : Outcome State Fault Refusal :=
  .next (State.reset.withPending s.pending)

/-- LOAD_ATTEMPT_FAILED (R10). -/
def execLoadAttemptFailed (s : State) : Outcome State Fault Refusal :=
  .next (if s.loaderIdle then s else attemptFails s)

/-- HEADER_READ: the format code and the length are checked before the body is read (R10, R11). -/
def execHeaderRead (format : Byte) (length sum : Half) (s : State) : Outcome State Fault Refusal :=
  .next
    (if s.loader.phase = .header then
      if format = 1 ∧ length.toNat = imageBodyLength then s.withLoader { s.loader with phase := .body sum }
      else endLoad (.rejected .imageFormat StationFields.default) s
    else s)

/-- BODY_READ (R11 to R14); a body that stops short is a failed attempt (R10). -/
def execBodyRead (body : List Byte) (s : State) : Outcome State Fault Refusal :=
  .next
    (match s.loader.phase with
    | .body sum =>
      if body.length < imageBodyLength then attemptFails s
      else endLoad (checkBody sum (body.take imageBodyLength)) s
    | _ => s)

end Sys2Proof.Machine
end

