-- ==== Sys2Proof/Machine/Tables.lean ====
section
/-! DEFINITION. The records of the seven tables the service tool reads, byte by byte (sections 11.3 and 11.5,
R167). Each enumerated value is carried as its position in the list of its owning rule. -/

namespace Sys2Proof.Machine

def u8 (n : Nat) : Byte := BitVec.ofNat 8 n
/-- Asserted 1, released 0, absent all ones. -/
def levelByte : Option Bool → Byte
  | some b => markByte b
  | none => 255

/-! ### Codes -/

def StationState.code : StationState → Nat
  | .passive => 0
  | .listenIn => 1
  | .active => 2
  | .addressConflict => 3

def PlantMode.code : PlantMode → Nat
  | .day => 0
  | .night => 1
  | .wake => 2

def ImageStatus.code : ImageStatus → Nat
  | .good => 0
  | .goodClamped => 1
  | .rejected => 2

def RoundPhase.code : RoundPhase → Nat
  | .closed => 0
  | .opened => 1
  | .guarding => 2

def LpState.code : LpState → Nat
  | .unused => 0
  | .running => 1
  | .idleWatch => 2
  | .stopPending => 3
  | .stopRequested => 4
  | .coasting => 5
  | .stopped => 6
  | .startPending => 7
  | .starting => 8
  | .manual => 9
  | .excluded => 10
  | .lockout => 11

/-- none is carried as all ones, SOFT and HARD as their positions in "none, SOFT, HARD" (log entry 11). -/
def LockoutKind.code : LockoutKind → Nat
  | .none => 255
  | .soft => 1
  | .hard => 2

def ActMode.code : ActMode → Nat
  | .none => 0
  | .stroke => 1
  | .loadLevel => 2
  | .rotation => 3
  | .paired => 4

def PlanState.code : PlanState → Nat
  | .unchecked => 0
  | .matched => 1
  | .mismatched => 2

def modeCode : BeaconMode → Nat
  | .listenIn => 0
  | .day => 1
  | .night => 2
  | .wake => 3

def ImageObject.code : ImageObject → Nat
  | .station => 0
  | .plan => 1
  | .service v => 2 + v.val
  | .loadPoint i => 14 + i.val

def EntryOutcome.code : EntryOutcome → Nat
  | .granted => 0
  | .deferred => 1
  | .skippedDemand | .skippedNotNeeded => 2
  | .deniedCapacity | .deniedService | .deniedView => 3

def EntryOutcome.reason : EntryOutcome → Nat
  | .granted | .deferred => 0
  | .skippedDemand => 1
  | .skippedNotNeeded => 2
  | .deniedCapacity => 3
  | .deniedService => 4
  | .deniedView => 5

/-- Code, sub-code and object of a fault; sub-code and object are 255 for every code but IMAGE_STRUCTURE. -/
def FaultCode.bytes : FaultCode → List Byte
  | .grantRefused => [1, 255, 255]
  | .stopNotSeen => [2, 255, 255]
  | .startNotSeen => [3, 255, 255]
  | .coastOverrun => [4, 255, 255]
  | .outputStuck => [5, 255, 255]
  | .imageMissing => [6, 255, 255]
  | .imageFormat => [7, 255, 255]
  | .imageSum => [8, 255, 255]
  | .imageStructure sub o => [9, u8 sub, u8 o.code]
  | .clamped => [10, 255, 255]

def FaultState.code : FaultState → Nat
  | .lp st => st.code
  | .startUp => 0
  | .passive => 1

def optCode (o : Option FaultCode) : List Byte := (o.map FaultCode.bytes).getD [255, 255, 255]

/-! ### Station status -/

/-- Remaining time of the window timer in OPEN, of the guard timer in GUARD. -/
def Round.timeLeft (r : Round) : Option Nat :=
  match r.phase with
  | .opened => r.window.millisLeft
  | .guarding => r.guardT.millisLeft
  | .closed => none

/-- The first clamped field as two bytes. -/
def clampedField (f : Option (ImageObject × Nat)) : List Byte :=
  match f with
  | some (o, k) => [u8 o.code, u8 k]
  | none => [255, 255]

def statusRecord (s : State) : List Byte :=
  leOpt 1 (s.mode.station.map StationState.code) ++
  [u8 s.mode.plant.code, markByte s.mode.isolated, levelByte s.mode.nightLevel, markByte s.nightSignal,
    s.station.followPlantNight] ++
  leOpt 1 s.mode.listenIn.secsLeft ++ le 4 s.faults.uptime.toNat ++
  leOpt 1 (s.loader.status.map ImageStatus.code) ++ [u8 s.loader.clampCount] ++
  clampedField s.loader.firstClamped ++ [u8 s.round.phase.code] ++ leOpt 2 s.round.timeLeft ++
  [u8 s.round.heard, markByte s.round.join, markByte s.round.doubtful] ++ le 2 s.faults.flags.toNat ++
  s.station.levels.toList ++ [s.station.alertThreshold, topAlertByte s.topAlertCode, markByte s.alertAsserted]

/-- A service record of the status table; a service not in use has no figures. -/
def statusService (s : State) (v : SvcId) : List Byte :=
  if s.svcInUse v then
    le 2 (s.demand v) ++ le 2 (s.capacity v) ++ le 3 (s.required v) ++
    leOpt 1 (s.svcs[v].timer.secsRun (s.svcBlock v).shortfallConfirm.toNat) ++
    [u8 (marksOf [s.svcs[v].confirmed, s.svcs[v].inForce])]
  else List.replicate 8 255 ++ [0x80]

/-- A position of the own intent queue. -/
def statusQueue (s : State) (k : Nat) : List Byte :=
  match s.round.queue[k]? with
  | some q => entryBytes q.entry ++ [markByte (s.round.committed q.serial)]
  | none => List.replicate 16 255

def statusTable (s : State) : List (List Byte) :=
  statusRecord s :: (svcIds.map (statusService s) ++ [0, 1, 2, 3, 4, 5, 6, 7].map (statusQueue s))

/-! ### LP runtime -/

def runtimeRecord (s : State) (i : LpId) : List Byte :=
  let c := s.chans[i]
  let u := s.units[i]
  let p := s.provs[i]
  let hold := match s.provided i with
    | some v => (s.svcBlock v).surplusHold.toNat
    | none => 0
  [u8 c.state.code] ++ leOpt 1 c.stopT.secsLeft ++ leOpt 2 c.coastT.secsLeft ++ leOpt 1 c.startT.secsLeft ++
  leOpt 1 c.settleT.secsLeft ++ leOpt 2 c.runOnT.secsLeft ++ leOpt 2 c.leadT.secsLeft ++
  leOpt 1 (c.cause.map fun x => x.asCause.code) ++ [u8 c.retry, u8 c.recalls, u8 c.lockout.code] ++
  leOpt 1 c.watch.millisLeft ++
  le 2 (marksOf [c.overrun, c.runOnDone, c.surplusHeld, c.entryQueued, c.autoOff, u.armed, u.dirFlag,
    s.isProvider i && p.established, s.isProvider i && p.reported]) ++
  [u8 (s.unitMode i).code] ++ le 2 u.count.toNat ++ [levelByte u.loaded] ++ le 2 u.idle ++
  le 2 u.lastDelta.toNat ++ leOpt 1 (u.lastSign.map fun | .plus => 0 | .minus => 1) ++
  [u8 u.dirCount, u8 u.runCount] ++ leOpt 2 (if s.isProvider i then p.timer.secsRun hold else none)

def runtimeTable (s : State) : List (List Byte) := lpIds.map (runtimeRecord s)

/-! ### Peer table -/

/-- Place a figure in ascending service order. -/
def insertFigure (f : Figure) : List Figure → List Figure
  | [] => [f]
  | x :: xs => if f.service < x.service then f :: x :: xs else x :: insertFigure f xs

/-- The figures a record carries: in ascending service order, up to eight (section 11.3). -/
def carriedFigures (e : PeerEntry) : List Figure := (e.figures.foldr insertFigure []).take 8

def peerRecord (e : PeerEntry) : List Byte :=
  [e.address,
    u8 (marksOf [e.freshness == .stale] + 2 * e.planState.code +
      8 * marksOf [e.night, e.viewOverflow, e.isolated, e.assembly.isSome])] ++
  leOpt 1 (e.mode.map modeCode) ++ leOpt 1 e.interval ++ leOpt 1 (e.lastSeq.map BitVec.toNat) ++ [u8 e.missed] ++
  leOpt 1 e.age.secsLeft ++ [topAlertByte e.topAlert] ++ leOpt 2 (e.planHeard.map BitVec.toNat) ++
  leOpt 1 (e.lastToggle.map BitVec.toNat) ++ leOpt 1 (e.assembly.map Assembly.next) ++
  leOpt 1 e.answerHold.secsLeft ++ [u8 e.figures.length] ++
  (carriedFigures e).flatMap fun f => figureBytes f.service f.demand.toNat f.capacity.toNat

def peerRecords (s : State) : List (List Byte) := s.peers.entries.map peerRecord

/-! ### Last round -/

def lastRoundHead (r : LastRound) : List Byte :=
  le 4 r.closeTime.toNat ++ le 2 r.budget ++ le 2 r.used ++ [u8 r.heard, u8 r.refused] ++
  [u8 (marksOf [r.doubtful, r.isolated, r.viewOverflow])]

def lastRoundEntry (x : ListEntry × EntryOutcome) : List Byte :=
  x.1.station :: (entryBytes x.1.entry ++ [u8 x.2.code, u8 x.2.reason])

def lastRoundTable (s : State) : List (List Byte) :=
  match s.round.last with
  | some r => lastRoundHead r :: r.entries.map lastRoundEntry
  | none => []

/-! ### Fault records and counters -/

def faultRecord (r : FaultRecord) : List Byte :=
  [u8 (marksOf [r.valid, r.locking, r.overflow])] ++ optCode r.first ++ le 4 r.firstTime.toNat ++
  leOpt 1 (r.stateAt.map FaultState.code) ++ optCode r.last ++ [u8 r.further]

def faultTable (s : State) : List (List Byte) := s.faults.lps.toList.map faultRecord ++ [faultRecord s.faults.station]

def counterRecord (s : State) : List Byte :=
  let c := s.link.counters
  [c.accepted, c.crcErrors, c.formatErrors, c.lostContentions, c.abandoned, c.lateIntents,
    c.missedRounds].flatMap (le 2) ++ [markByte s.link.latch]

/-! ### Configuration echo -/

/-- A load point record of the configuration echo. The bytes of demand pairs beyond the pair count go out as stored: R8
and R9 say nothing of them (log entry 33). -/
def lpBytes (b : LpBlock) : List Byte :=
  [b.inUse, b.control, b.activityMode, b.edge, b.loadPolarity] ++ le 2 b.idleLimit.toNat ++ [b.level, b.leader] ++
  le 2 b.runOn.toNat ++ le 2 b.leadTime.toNat ++ [b.provides] ++ le 2 b.capacity.toNat ++
  [b.startSettle, b.pairCount, b.pair0.service, b.pair0.units, b.pair1.service, b.pair1.units, b.pair2.service,
    b.pair2.units, b.inrush, b.grantTimeout, b.feedbackTimeout, b.retries, b.reportOnExhaust] ++
  le 2 b.coastLimit.toNat ++ [b.standstillThreshold, b.standstillSamples, b.startTimeout]

def stationEcho (s : State) : List Byte :=
  leOpt 1 (s.station.address.map BitVec.toNat) ++
  [s.station.statusInterval, s.station.followPlantNight, s.station.alertThreshold] ++ s.station.levels.toList ++
  leOpt 1 (s.loader.status.map ImageStatus.code) ++ [u8 s.loader.clampCount] ++ clampedField s.loader.firstClamped

def echoTable (s : State) : List (List Byte) :=
  match s.config with
  | some c => stationEcho s :: planBytes c.plan :: (c.services.toList.map serviceBytes ++ c.lps.toList.map lpBytes)
  | none => [stationEcho s]

/-! ### The tables by code (section 11.3) -/

inductive Table where
  | stationStatus | lpRuntime | peerTable | lastRound | faultRecords | counters | configurationEcho
  deriving DecidableEq, Repr

def Table.ofCode (c : Byte) : Option Table :=
  match c.toNat with
  | 1 => some .stationStatus
  | 2 => some .lpRuntime
  | 3 => some .peerTable
  | 4 => some .lastRound
  | 5 => some .faultRecords
  | 6 => some .counters
  | 7 => some .configurationEcho
  | _ => none

/-- The records of a table at its present length (R167). -/
def Table.records (s : State) : Table → List (List Byte)
  | .stationStatus => statusTable s
  | .lpRuntime => runtimeTable s
  | .peerTable => peerRecords s
  | .lastRound => lastRoundTable s
  | .faultRecords => faultTable s
  | .counters => [counterRecord s]
  | .configurationEcho => echoTable s

end Sys2Proof.Machine
end

