-- ==== Sys2Proof/Machine/Responder.lean ====
section
/-! DEFINITION. The inquiry responder (chapter 10): the checks of a request, the reply, and what each inquiry and
directive does. -/

namespace Sys2Proof.Machine

open Host

/-! ### Replies (section 11.3) -/

inductive RefusalReason where
  | badTable | badIndex | badDirective | badArgument | hard | manual | notFound | passive
  deriving DecidableEq, Repr

def RefusalReason.code : RefusalReason → Byte
  | .badTable => 1
  | .badIndex => 2
  | .badDirective => 3
  | .badArgument => 4
  | .hard => 5
  | .manual => 6
  | .notFound => 7
  | .passive => 8

/-- A refusal, with the table or directive code of the request, an unknown one as it came (R165, 11.3; log entry 40). -/
def refusedPayload (kind code : Byte) (r : RefusalReason) (detail : Byte) : List Byte :=
  [kind, code, 3, r.code, detail]

def acceptedPayload (code : Byte) : List Byte := [kindDirective, code, 2]

/-! ### Taking a tool frame (R79, R165) -/

/-- A tool frame addressed to this station ends: it is accepted, and `k` acts on it unless the station has no
address or is in ADDRESS_CONFLICT. -/
def toolFrame (k : State → State) (s : State) : State :=
  if s.receiving then
    let t := accept (frameEnd s)
    if t.station.address.isSome && !t.inConflict then k t else t
  else frameMissed s

/-! ### Inquiries (R166 to R168) -/

/-- As many whole records, from the first on, as fit the room. -/
def takeFit : Nat → List (List Byte) → List (List Byte)
  | _, [] => []
  | room, r :: rs => if r.length ≤ room then r :: takeFit (room - r.length) rs else []

/-- The bytes a peer-table reply places before its records. -/
def replyPrefix (s : State) : Table → List Byte
  | .peerTable => markByte s.viewOverflow :: leOpt 1 s.peers.overflow.secsLeft
  | _ => []

/-- The records a reply holds (R166). -/
def heldRecords (t : Table) (start count : Byte) (s : State) : List (List Byte) :=
  takeFit (58 - (replyPrefix s t).length) (((t.records s).drop start.toNat).take count.toNat)

/-- What forming a reply that holds `n` records from `start` on clears (R168). -/
def readClears (t : Table) (start n : Nat) (s : State) : State :=
  match t with
  | .counters => if 0 < n then s.withLink { s.link with counters := LinkCounters.zero, latch := false } else s
  | .lpRuntime =>
    s.withUnits (Vector.ofFn fun i =>
      if start ≤ i.val ∧ i.val < start + n then { s.units[i] with dirFlag := false } else s.units[i])
  | _ => s

/-- Answer an inquiry of a table (R166 to R168). -/
def answerInquiry (t : Table) (code seq start count : Byte) (s : State) : State :=
  let len := (t.records s).length
  if len ≤ start.toNat then
    handReply seq (refusedPayload kindInquiry code .badIndex (u8 len)) s
  else
    let held := heldRecords t start count s
    handReply seq ([kindInquiry, code, 1, start, u8 held.length, u8 len] ++ replyPrefix s t ++ held.flatten)
      (readClears t start.toNat held.length s)

/-- An INQUIRY of the table of that code, which is refused with BAD_TABLE, the unknown code echoed, when it is none of
the seven (R166; log entry 40). -/
def inquire (code seq start count : Byte) (s : State) : State :=
  match Table.ofCode code with
  | some t => answerInquiry t code seq start count s
  | none => handReply seq (refusedPayload kindInquiry code .badTable 0) s

/-! ### Directives (R169) -/

/-- A directive outside RESTART: refused in PASSIVE before any check; otherwise `k` checks and applies it
(R165, R169). -/
def directive (code seq : Byte) (k : State → State) (s : State) : State :=
  toolFrame (fun t =>
    if t.mode.station = some .passive then handReply seq (refusedPayload kindDirective code .passive 0) t
    else k t) s

def acceptDirective (code seq : Byte) (s : State) : State := handReply seq (acceptedPayload code) s
def refuseDirective (code seq : Byte) (r : RefusalReason) (detail : Byte) (s : State) : State :=
  handReply seq (refusedPayload kindDirective code r detail) s

/-- The in-use load points a mask names (R169). -/
def State.named (s : State) (m : Byte) : List LpId := lpIds.filter fun i => s.inUse i && maskBit m i

/-- The named load points that make a directive refused. -/
def State.causing (s : State) (m : Byte) (p : Chan → Bool) : List LpId := (s.named m).filter fun i => p s.chans[i]

/-- CLEAR_FAULT clears the named records (R158). -/
def clearFaults (m : Byte) (station : Bool) (s : State) : State :=
  s.withFaults { s.faults with
    lps := Vector.ofFn fun i =>
      if s.inUse i && maskBit m i then FaultRecord.clear else s.faults.lps[i]
    station := if station then FaultRecord.clear else s.faults.station }

/-- One soft lockout cleared (R58). -/
def clearSoft (s : State) (i : LpId) : State :=
  if s.chans[i].lockout = .soft then
    let t := s.setChan i { s.chans[i] with lockout := .none }
    if t.chans[i].state = .lockout then enter i .running t else t
  else s

/-- One load point excluded (R57). -/
def excludeLp (s : State) (i : LpId) : State :=
  if s.chans[i].state = .lockout ∨ s.chans[i].state = .excluded then s else enter i .excluded s

/-- One load point included (R57). -/
def includeLp (s : State) (i : LpId) : State :=
  if s.chans[i].state = .excluded then enter i .running s else s

/-- FORGET_PEER removes an entry; the silence timer is cancelled when the table becomes empty (R81, R101). -/
def forget (a : Byte) (s : State) : State :=
  let t := s.withEntries (dropEntry a s.peers.entries)
  settle (if t.peers.entries.isEmpty then t.withLink { t.link with silence := .off } else t)

/-- CLEAR_ALERTS clears the named flags (R162). -/
def clearFlags (classes : Half) (s : State) : State :=
  s.withFaults { s.faults with flags := s.faults.flags &&& ~~~(classes.setWidth 9) }

/-! ### Warm restart (R16, R35, R66, R84, R103, R118, R140, R152) -/

/-- The link controller after a warm restart (R84). -/
def Link.restarted (l : Link) : Link :=
  { Link.reset with lineIdle := l.lineIdle, awaitIdle := true }

/-- A unit after a warm restart: the values of R34 with the loaded field kept (R35). -/
def ActUnit.restarted (u : ActUnit) : ActUnit := { ActUnit.cleared with loaded := u.loaded }

/-- The state a channel is restored to (R66). -/
def restoredState (handPresent : Bool) (c : Chan) : LpState :=
  match c.state with
  | .running | .idleWatch | .stopPending => .running
  | .startPending => .stopped
  | .manual => if handPresent then .manual else afterHand c
  | st => st

/-- One channel restored: its timers start from full and its watch begins afresh (R66). -/
def restoreChan (s : State) (i : LpId) : State :=
  if s.inUse i then
    let t := enter i (restoredState (s.handPresent i) s.chans[i]) s
    t.setChan i { t.chans[i] with
      watch := freshWatch t.chans[i].lockout t.lines[i].stoprb t.chans[i].state.stopAsserted }
  else s

/-- What a warm restart does in every station state but the loader's part: frames, table, balance, rounds, timers
(R84, R103, R118, R140, R152). -/
def restartBlocks (s : State) : State :=
  let s := (s.withLink s.link.restarted).withPeers PeerTable.reset
  let s := (s.withSvcs (Vector.replicate 12 SvcBalance.clear)).withProvs (Vector.replicate 8 ProvBalance.clear)
  let s := s.withRound { Round.reset with nextSerial := s.round.nextSerial }
  s.withMode { s.mode with isolated := false, listenIn := .off, beaconT := .off }

/-- The units are cleared and the channels restored (R35, R66). -/
def restoreAll (s : State) : State :=
  lpIds.foldl restoreChan
    (s.withUnits (Vector.ofFn fun i => if s.inUse i then s.units[i].restarted else s.units[i]))

/-- A warm restart outside PASSIVE: the blocks are cleared or restored and the station enters LISTEN_IN. A beacon that
a sending station held is reported discarded; the announcement it calls for is handed behind the first beacon of
LISTEN_IN (R84, R90, R152; log entry 22). -/
def warmRestart (s : State) : State :=
  beaconOutcome (s.beaconing && s.link.holdsTrigger) (beginListening (restoreAll (restartBlocks s)))

/-- A warm restart in PASSIVE: the loader re-reads the image (R16, R170). -/
def rereadImage (seq : Byte) (s : State) : State :=
  let s := restartBlocks s
  s.withLoader { s.loader with phase := .header, failures := 0, warm := true, replySeq := some seq }

/-! ### The commands -/

/-- INQUIRY_STATION_STATUS (R167). -/
def execInquiryStationStatus (seq start count : Byte) (s : State) : Outcome State Fault Refusal :=
  .next (toolFrame (inquire 1 seq start count) s)

/-- INQUIRY_LP_RUNTIME (R33, R168). -/
def execInquiryLpRuntime (seq start count : Byte) (s : State) : Outcome State Fault Refusal :=
  .next (toolFrame (inquire 2 seq start count) s)

/-- INQUIRY_PEER_TABLE (R102). -/
def execInquiryPeerTable (seq start count : Byte) (s : State) : Outcome State Fault Refusal :=
  .next (toolFrame (inquire 3 seq start count) s)

/-- INQUIRY_LAST_ROUND (R136). -/
def execInquiryLastRound (seq start count : Byte) (s : State) : Outcome State Fault Refusal :=
  .next (toolFrame (inquire 4 seq start count) s)

/-- INQUIRY_FAULT_RECORDS (R167). -/
def execInquiryFaultRecords (seq start count : Byte) (s : State) : Outcome State Fault Refusal :=
  .next (toolFrame (inquire 5 seq start count) s)

/-- INQUIRY_COUNTERS (R83, R168). -/
def execInquiryCounters (seq start count : Byte) (s : State) : Outcome State Fault Refusal :=
  .next (toolFrame (inquire 6 seq start count) s)

/-- INQUIRY_CONFIGURATION_ECHO (R167). -/
def execInquiryConfigurationEcho (seq start count : Byte) (s : State) : Outcome State Fault Refusal :=
  .next (toolFrame (inquire 7 seq start count) s)

/-- BAD_TABLE: an INQUIRY of a table code outside the seven (R166). -/
def execBadTable (seq table start count : Byte) (s : State) : Outcome State Fault Refusal :=
  .next (toolFrame (inquire table seq start count) s)

/-- CLEAR_FAULT (R158, R169). -/
def execClearFault (seq lps : Byte) (station : Bool) (s : State) : Outcome State Fault Refusal :=
  .next (directive 1 seq (fun t => acceptDirective 1 seq (clearFaults lps station t)) s)

/-- CLEAR_LOCKOUT (R58, R169). -/
def execClearLockout (seq lps : Byte) (s : State) : Outcome State Fault Refusal :=
  .next (directive 2 seq (fun t =>
    let hard := t.causing lps fun c => c.lockout == .hard
    if hard.isEmpty then acceptDirective 2 seq (settle ((t.named lps).foldl clearSoft t))
    else refuseDirective 2 seq .hard (maskOf hard) t) s)

/-- EXCLUDE (R57, R169). -/
def execExclude (seq lps : Byte) (s : State) : Outcome State Fault Refusal :=
  .next (directive 3 seq (fun t =>
    let manual := t.causing lps fun c => c.state == .manual
    if manual.isEmpty then acceptDirective 3 seq (settle ((t.named lps).foldl excludeLp t))
    else refuseDirective 3 seq .manual (maskOf manual) t) s)

/-- INCLUDE (R57, R169). -/
def execInclude (seq lps : Byte) (s : State) : Outcome State Fault Refusal :=
  .next (directive 4 seq (fun t => acceptDirective 4 seq (settle ((t.named lps).foldl includeLp t))) s)

/-- FORGET_PEER (R101, R169). -/
def execForgetPeer (seq address : Byte) (s : State) : Outcome State Fault Refusal :=
  .next (directive 5 seq (fun t =>
    if !isStation address then refuseDirective 5 seq .badArgument 0 t
    else if (findEntry address t.peers.entries).isNone then refuseDirective 5 seq .notFound address t
    else acceptDirective 5 seq (forget address t)) s)

/-- CLEAR_ALERTS (R162, R169). -/
def execClearAlerts (seq : Byte) (classes : Half) (s : State) : Outcome State Fault Refusal :=
  .next (directive 6 seq (fun t =>
    if 512 ≤ classes.toNat then refuseDirective 6 seq .badArgument 0 t
    else acceptDirective 6 seq (clearFlags classes t)) s)

/-- RESTART: a warm restart in every station state that takes it; answered but in ADDRESS_CONFLICT, and in
PASSIVE at the outcome of the re-read (R152, R165, R170). -/
def execRestart (seq : Byte) (s : State) : Outcome State Fault Refusal :=
  .next
    (if s.receiving then
      let t := accept (frameEnd s)
      if t.station.address.isNone then t
      else match t.mode.station with
        | some .passive => rereadImage seq t
        | some .addressConflict => warmRestart t
        | _ => acceptDirective 7 seq (warmRestart t)
    else frameMissed s)

/-- BAD_DIRECTIVE: a directive code outside the seven, which the reply echoes (R169; log entry 40). -/
def execBadDirective (seq code : Byte) (_argument : Half) (s : State) : Outcome State Fault Refusal :=
  .next (directive code seq (refuseDirective code seq .badDirective 0) s)

end Sys2Proof.Machine
end

