-- ==== Sys2Proof/Machine/Dispatch.lean ====
section
/-! DEFINITION. The one match of the block: each command's own meaning. -/

namespace Sys2Proof.Machine

open Host

def exec (i : Instr) (s : State) : Host.Outcome State Fault Refusal :=
  match i with
  -- the loader and power-on
  | .powerOn => Sys2Proof.Machine.execPowerOn s
  | .loadAttemptFailed => Sys2Proof.Machine.execLoadAttemptFailed s
  | .headerRead format length sum => Sys2Proof.Machine.execHeaderRead format length sum s
  | .bodyRead body => Sys2Proof.Machine.execBodyRead body s
  | .uptimeTick => Sys2Proof.Machine.execUptimeTick s
  -- activity counters
  | .actFirstLevel lp high => Sys2Proof.Machine.execActFirstLevel lp high s
  | .strokeEdge lp high => Sys2Proof.Machine.execStrokeEdge lp high s
  | .loadLevelChange lp high => Sys2Proof.Machine.execLoadLevelChange lp high s
  | .quadratureEdge lp high => Sys2Proof.Machine.execQuadratureEdge lp high s
  | .bothPhasesChange lp highA highB => Sys2Proof.Machine.execBothPhasesChange lp highA highB s
  | .rotationSample lp => Sys2Proof.Machine.execRotationSample lp s
  | .idleTimerDecrease lp => Sys2Proof.Machine.execIdleTimerDecrease lp s
  | .idleExpiry lp => Sys2Proof.Machine.execIdleExpiry lp s
  -- load point channels
  | .lineFirstLevel line lp present => Sys2Proof.Machine.execLineFirstLevel line lp present s
  | .runRise lp => Sys2Proof.Machine.execRunRise lp s
  | .runDrop lp => Sys2Proof.Machine.execRunDrop lp s
  | .grantRise lp => Sys2Proof.Machine.execGrantRise lp s
  | .grantDrop lp => Sys2Proof.Machine.execGrantDrop lp s
  | .handAsserted lp => Sys2Proof.Machine.execHandAsserted lp s
  | .handReleased lp => Sys2Proof.Machine.execHandReleased lp s
  | .stoprbEdge lp asserted => Sys2Proof.Machine.execStoprbEdge lp asserted s
  | .readBackWatchExpiry lp => Sys2Proof.Machine.execReadBackWatchExpiry lp s
  | .stopTimerExpiry lp => Sys2Proof.Machine.execStopTimerExpiry lp s
  | .coastTimerExpiry lp => Sys2Proof.Machine.execCoastTimerExpiry lp s
  | .startTimerExpiry lp => Sys2Proof.Machine.execStartTimerExpiry lp s
  | .settleTimerExpiry lp => Sys2Proof.Machine.execSettleTimerExpiry lp s
  | .runOnExpiry lp => Sys2Proof.Machine.execRunOnExpiry lp s
  | .leadTimerExpiry lp => Sys2Proof.Machine.execLeadTimerExpiry lp s
  -- modes, beacons and balance timers
  | .nightFirstLevel asserted => Sys2Proof.Machine.execNightFirstLevel asserted s
  | .nightEdge asserted => Sys2Proof.Machine.execNightEdge asserted s
  | .listenInTimerExpiry => Sys2Proof.Machine.execListenInTimerExpiry s
  | .beaconTimerExpiry => Sys2Proof.Machine.execBeaconTimerExpiry s
  | .surplusTimerExpiry lp => Sys2Proof.Machine.execSurplusTimerExpiry lp s
  | .shortfallTimerExpiry svc => Sys2Proof.Machine.execShortfallTimerExpiry svc s
  -- the link controller
  | .attemptStart sender => Sys2Proof.Machine.execAttemptStart s sender
  | .lostContention loss draw => Sys2Proof.Machine.execLostContention loss draw s
  | .backoffExpiry => Sys2Proof.Machine.execBackoffExpiry s
  | .frameCompleted => Sys2Proof.Machine.execFrameCompleted s
  | .receptionEndedEarly => Sys2Proof.Machine.execReceptionEndedEarly s
  | .crcError => Sys2Proof.Machine.execCrcError s
  | .formatError => Sys2Proof.Machine.execFormatError s
  | .beacon src seq msg => Sys2Proof.Machine.execBeacon src seq msg s
  | .plan src toggle page => Sys2Proof.Machine.execPlan src toggle page s
  | .intent src heard entries => Sys2Proof.Machine.execIntent src heard entries s
  | .reply src => Sys2Proof.Machine.execReply src s
  | .foreignToolFrame => Sys2Proof.Machine.execForeignToolFrame s
  | .addressConflict => Sys2Proof.Machine.execAddressConflict s
  | .silenceTimerExpiry => Sys2Proof.Machine.execSilenceTimerExpiry s
  -- the peer table and the round
  | .ageTimerExpiry address => Sys2Proof.Machine.execAgeTimerExpiry address s
  | .overflowTimerExpiry => Sys2Proof.Machine.execOverflowTimerExpiry s
  | .answerHoldExpiry address => Sys2Proof.Machine.execAnswerHoldExpiry address s
  | .sharedAnswerHoldExpiry => Sys2Proof.Machine.execSharedAnswerHoldExpiry s
  | .roundClose => Sys2Proof.Machine.execRoundClose s
  | .guardExpiry => Sys2Proof.Machine.execGuardExpiry s
  -- the service tool
  | .inquiryStationStatus seq start count => Sys2Proof.Machine.execInquiryStationStatus seq start count s
  | .inquiryLpRuntime seq start count => Sys2Proof.Machine.execInquiryLpRuntime seq start count s
  | .inquiryPeerTable seq start count => Sys2Proof.Machine.execInquiryPeerTable seq start count s
  | .inquiryLastRound seq start count => Sys2Proof.Machine.execInquiryLastRound seq start count s
  | .inquiryFaultRecords seq start count => Sys2Proof.Machine.execInquiryFaultRecords seq start count s
  | .inquiryCounters seq start count => Sys2Proof.Machine.execInquiryCounters seq start count s
  | .inquiryConfigurationEcho seq start count => Sys2Proof.Machine.execInquiryConfigurationEcho seq start count s
  | .badTable seq table start count => Sys2Proof.Machine.execBadTable seq table start count s
  | .clearFault seq lps station => Sys2Proof.Machine.execClearFault seq lps station s
  | .clearLockout seq lps => Sys2Proof.Machine.execClearLockout seq lps s
  | .excludeLps seq lps => Sys2Proof.Machine.execExclude seq lps s
  | .includeLps seq lps => Sys2Proof.Machine.execInclude seq lps s
  | .forgetPeer seq address => Sys2Proof.Machine.execForgetPeer seq address s
  | .clearAlerts seq classes => Sys2Proof.Machine.execClearAlerts seq classes s
  | .restart seq => Sys2Proof.Machine.execRestart seq s
  | .badDirective seq code argument => Sys2Proof.Machine.execBadDirective seq code argument s
  | .lineIdle => Sys2Proof.Machine.execLineIdle s

end Sys2Proof.Machine
end

