-- ==== Sys2Proof/Machine/Time.lean ====
section
/-! DEFINITION. The passage of time while no command waits (log entry 1): every running timer of the station comes
one tick nearer its end. The moment a timer runs out is the command that names its expiry. -/

namespace Sys2Proof.Machine

/-- A timer that measures remaining time, one tick on; it waits at 0 for its expiry. -/
def Timer.tick : Timer → Timer
  | .running us => .running (us - Config.tickUs)
  | t => t

/-- A timer that measures how long a condition has lasted, one tick on; it waits at its full time. -/
def Timer.tickUp (full : Nat) : Timer → Timer
  | .running us => .running (min full (us + Config.tickUs))
  | t => t

def Chan.tick (c : Chan) : Chan :=
  { c with stopT := c.stopT.tick, coastT := c.coastT.tick, startT := c.startT.tick, settleT := c.settleT.tick,
           runOnT := c.runOnT.tick, leadT := c.leadT.tick, watch := c.watch.tick }

def TxPhase.tick : TxPhase → TxPhase
  | .backingOff t => .backingOff t.tick
  | p => p

def PeerEntry.tick (e : PeerEntry) : PeerEntry := { e with age := e.age.tick, answerHold := e.answerHold.tick }

/-- The full time of a provider's surplus timer (R109). -/
def State.surplusHoldUs (s : State) (i : LpId) : Nat :=
  match s.provided i with
  | some v => seconds (s.svcBlock v).surplusHold.toNat
  | none => 0

/-- One tick of the station's timers. The idle timers, the sample clocks and the uptime have commands of their
own, and so has the line's becoming idle. -/
def State.tick (s : State) : State :=
  let s := s.withChans (Vector.ofFn fun i => s.chans[i].tick)
  let s := s.withSvcs (Vector.ofFn fun v =>
    { s.svcs[v] with timer := s.svcs[v].timer.tickUp (seconds (s.svcBlock v).shortfallConfirm.toNat) })
  let s := s.withProvs (Vector.ofFn fun i =>
    { s.provs[i] with timer := s.provs[i].timer.tickUp (s.surplusHoldUs i) })
  let s := s.withLink { s.link with
    silence := s.link.silence.tick,
    inProgress := s.link.inProgress.map fun t => { t with phase := t.phase.tick } }
  let s := s.withPeers { s.peers with
    entries := s.peers.entries.map PeerEntry.tick, overflow := s.peers.overflow.tick,
    sharedHold := s.peers.sharedHold.tick }
  let s := s.withRound { s.round with window := s.round.window.tick, guardT := s.round.guardT.tick }
  s.withMode { s.mode with listenIn := s.mode.listenIn.tick, beaconT := s.mode.beaconT.tick }

end Sys2Proof.Machine
end

