-- ==== Sys2Proof/Machine/Step.lean ====
section
/-! DEFINITION. One step: the command at the front of the queue, or one tick of time on an empty queue. -/

namespace Sys2Proof.Machine

open Host

/-- Take the command at the front of the queue and run it with the queue's rest; on an empty queue time passes
(log entry 1). -/
def step (s : State) : Outcome State Fault Refusal :=
  match s.pending with
  | [] => .next s.tick
  | c :: rest => exec c (s.withPending rest)

/-- The command a table word spells, put at the front of the queue; no word spells one (the table gives no bits). -/
def State.withFetchWord (s : State) (nbits w : Nat) : State :=
  match decodeTableWord nbits w with
  | some c => s.withPending (c :: s.pending)
  | none => s

end Sys2Proof.Machine
end

