-- ==== Sys2Proof/Safety.lean ====
section
/-! DEFINITION. What a station state has to satisfy to be one the manual describes. Each predicate is decidable and
speaks of every state; the statements say which of them every step keeps. -/

namespace Sys2Proof.Machine

/-- Where a field of the runtime record has no meaning its value is not running, no, clear or absent (the table
notes of R36), and the saturating recall count stays in its range. -/
abbrev Chan.Wf (c : Chan) : Prop :=
  (c.state ≠ .stopRequested → c.stopT = .off) ∧
  (c.state ≠ .coasting → c.coastT = .off ∧ c.overrun = false) ∧
  (c.state ≠ .starting → c.startT = .off ∧ c.settleT = .off) ∧
  (c.state ≠ .stopPending → c.runOnT = .off ∧ c.runOnDone = false ∧ c.surplusHeld = false) ∧
  (c.state ≠ .startPending → c.leadT = .off ∧ c.cause = none) ∧
  (c.state ≠ .stopPending → c.state ≠ .startPending → c.entryQueued = false) ∧
  c.recalls ≤ 255

/-- The unit follows its channel: armed in IDLE_WATCH only, coasting in COASTING only (R18). -/
abbrev UnitFollows (u : ActUnit) (c : Chan) : Prop :=
  u.armed = decide (c.state = .idleWatch) ∧ u.coasting = decide (c.state = .coasting) ∧ u.dirCount ≤ 255

abbrev State.ChannelsWf (s : State) : Prop := ∀ i : LpId, s.chans[i].Wf ∧ UnitFollows s.units[i] s.chans[i]

/-- At most 32 entries, in ascending order of address, never two for one address (R92). -/
abbrev PeerTable.Wf (t : PeerTable) : Prop :=
  t.entries.length ≤ tableCapacity ∧ (t.entries.map PeerEntry.address).Pairwise (· < ·)

/-- The round record's limits (R120, R123): the list holds at most 24 entries, the queue at most one entry per load
point, level descending and then load point ascending, each with a serial of its own below the next to be given;
outside an OPEN round the list is empty and the join mark clear, and in CLOSED the counts and the doubtful mark are
clear. -/
abbrev Round.Wf (r : Round) : Prop :=
  r.list.length ≤ listCapacity ∧ (r.queue.map fun q => q.entry.lp).Nodup ∧
  r.queue.Pairwise (fun a b => b.entry.level < a.entry.level ∨
    a.entry.level = b.entry.level ∧ a.entry.lp < b.entry.lp) ∧
  (r.queue.map QueueEntry.serial).Nodup ∧ (∀ q ∈ r.queue, q.serial < r.nextSerial) ∧
  r.heard ≤ 255 ∧ r.refused ≤ 255 ∧
  (r.phase ≠ .opened → r.list = [] ∧ r.join = false) ∧
  (r.phase = .closed → r.heard = 0 ∧ r.refused = 0 ∧ r.doubtful = false)

/-- A fault record's rule (R155): nothing further while it is not valid, and never above 255. -/
abbrev FaultRecord.Wf (r : FaultRecord) : Prop :=
  (r.valid = false → r = FaultRecord.clear) ∧ r.further ≤ 255 ∧ (r.overflow = true ↔ 0 < r.further)

/-- The link counters stop at 65535 (R83). -/
abbrev LinkCounters.Wf (c : LinkCounters) : Prop :=
  c.accepted ≤ 65535 ∧ c.crcErrors ≤ 65535 ∧ c.formatErrors ≤ 65535 ∧ c.lostContentions ≤ 65535 ∧
  c.abandoned ≤ 65535 ∧ c.lateIntents ≤ 65535 ∧ c.missedRounds ≤ 65535

/-- A frame in progress has lost at most seven attempts (R75, R76). -/
abbrev Link.Wf (l : Link) : Prop :=
  l.counters.Wf ∧ (∀ t, l.inProgress = some t → t.attempts ≤ 7)

/-- No two entries of a round list stand for one station address and load point (R128), with what keeps it so: own
entries stand in an OPEN round only once the join mark is set, no own frame is outstanding then, a frame names a
load point once, and while the loader reads there is neither list nor frame, and no station at work (R10, R16). -/
abbrev State.RoundPairs (s : State) : Prop :=
  s.round.Wf ∧ (s.round.list.map fun e => (e.station, e.entry.lp)).Nodup ∧
  (s.round.join = false → ∀ e ∈ s.round.list, e.station ≠ s.ownAddress) ∧
  (s.round.join = true → s.round.outstanding = none) ∧
  (∀ qs, s.round.outstanding = some qs → (qs.map fun q => q.entry.lp).Nodup) ∧
  (s.loader.phase ≠ .done → s.round.list = [] ∧ s.round.outstanding = none ∧
    (s.mode.station = none ∨ s.mode.station = some .passive))

/-- An unused channel holds its power-on values (R36), and a channel's entry-queued mark says whether the own intent
queue holds an entry of it (R41, R52, R120); no configuration is held while the loader reads or in PASSIVE (R2,
R14, R16). -/
abbrev State.QueueMarks (s : State) : Prop :=
  (s.loader.phase ≠ .done ∨ s.mode.station = some .passive → s.config = none) ∧
  (∀ i : LpId, s.inUse i = false → s.chans[i] = Chan.powerOn .unused 0) ∧
  ∀ i : LpId, s.chans[i].entryQueued = s.round.queue.any fun q => q.entry.lp == i

/-- While the loader reads the station is in no state but PASSIVE and its link holds no frame (R10, R16, R84). -/
abbrev State.LoaderHoldsNothing (s : State) : Prop :=
  s.loader.phase ≠ .done → (s.mode.station = none ∨ s.mode.station = some .passive) ∧
    s.link.inProgress = none ∧ s.link.pagesLeft = [] ∧ s.link.waitIntent = none ∧ s.link.waitReply = none ∧
    s.link.waitPages = [] ∧ s.link.waitBeacon = none

/-- The nine fault records are well formed (R155). -/
abbrev FaultUnit.Wf (f : FaultUnit) : Prop := (∀ i : LpId, f.lps[i].Wf) ∧ f.station.Wf

/-- A hard lockout stands in LOCKOUT or MANUAL (R58, R59). -/
abbrev Chan.HardHeld (c : Chan) : Prop := c.lockout = .hard ∧ (c.state = .lockout ∨ c.state = .manual)

/-- Whether a command belongs to the loader: it may put another configuration in force (R14). -/
def isLoaderCommand : Instr → Bool
  | .powerOn | .loadAttemptFailed | .headerRead _ _ _ | .bodyRead _ => true
  | _ => false

/-- Whether a command is an INQUIRY, or a DIRECTIVE other than RESTART, of the service tool to this station (R165). -/
def isRequest : Instr → Bool
  | .inquiryStationStatus _ _ _ | .inquiryLpRuntime _ _ _ | .inquiryPeerTable _ _ _ | .inquiryLastRound _ _ _
  | .inquiryFaultRecords _ _ _ | .inquiryCounters _ _ _ | .inquiryConfigurationEcho _ _ _ | .badTable _ _ _ _
  | .clearFault _ _ _ | .clearLockout _ _ | .excludeLps _ _ | .includeLps _ _ | .forgetPeer _ _ | .clearAlerts _ _
  | .badDirective _ _ _ => true
  | _ => false

/-- Whether a command is the end of a frame of another sender, whole or early (R77 to R80). -/
def isFrameCommand : Instr → Bool
  | .receptionEndedEarly | .crcError | .formatError | .beacon _ _ _ | .plan _ _ _ | .intent _ _ _ | .reply _
  | .foreignToolFrame | .addressConflict | .restart _ => true
  | c => isRequest c

/-- A load that ended REJECTED (R14, R15): `t` follows `s` with the fault recorded and the station in PASSIVE. -/
abbrev State.LoadRejected (s t : State) (fault : FaultCode) (station : StationFields) : Prop :=
  t.mode = { s.mode with station := some .passive, plant := .day } ∧ t.config = none ∧ t.station = station ∧
  t.loader.phase = .done ∧ t.loader.status = some .rejected ∧ t.loader.clampCount = 0 ∧
  t.loader.firstClamped = none ∧
  (∀ i : LpId, t.chans[i] = Chan.powerOn .unused 0 ∧ t.units[i] = ActUnit.cleared) ∧
  t.faults.station = s.faults.station.report fault s.faults.uptime (if s.loader.warm then .passive else .startUp)
    false ∧
  t.faults.lps = s.faults.lps ∧ t.faults.uptime = s.faults.uptime ∧ t.flagSet .configFault = true ∧
  t.lines = s.lines ∧ t.peers = s.peers ∧ t.round = s.round ∧ t.svcs = s.svcs ∧ t.provs = s.provs ∧
  t.link.counters = s.link.counters

/-- A follower's stop request is asserted only while its leader's is (R60). -/
abbrev State.FollowersHeld (s : State) : Prop :=
  ∀ i l : LpId, s.leader i = some l → s.stopLine i = true → s.stopLine l = true

end Sys2Proof.Machine
end

