-- ==== Sys2Proof/Certificates/Slice0/Obligations.lean ====
section
/-! DEFINITION. The statements for the provers. A command's meaning often ends in `settle`: the statement then names
the state `u` the event leaves directly, and says that the command answers `settle u`, the state once every
consequence "in the same event" has been taken. What `settle` may change, and what holds when nothing is left due,
are statements of their own. -/

open Sys2Proof Sys2Proof.Machine

/-! ### The queue of commands -/

/-- A step runs the command at the front of the queue on the state with the queue's rest. -/
def Obligations.StepRunsFrontCommand : Prop :=
  ∀ (c : Instr) (rest : List Instr) (s : State),
    step (s.withPending (c :: rest)) = exec c (s.withPending rest)

/-- With no command waiting a step is one tick of 1 ms (the model's choice, log entry 1): every running timer comes
nearer its end and waits there, a surplus or shortfall timer has run longer up to its full time, and nothing else of
the station moves. -/
def Obligations.IdleStepMovesTimersOnly : Prop :=
  ∀ s : State, s.pending = [] →
    let left (x : Timer) : Timer := match x with
      | .running us => .running (us - 1000)
      | y => y
    let ran (full : Nat) (x : Timer) : Timer := match x with
      | .running us => .running (min full (us + 1000))
      | y => y
    ∃ t : State, step s = .next t ∧
      (∀ i : LpId, t.chans[i] = { s.chans[i] with
        stopT := left s.chans[i].stopT, coastT := left s.chans[i].coastT, startT := left s.chans[i].startT,
        settleT := left s.chans[i].settleT, runOnT := left s.chans[i].runOnT, leadT := left s.chans[i].leadT,
        watch := left s.chans[i].watch }) ∧
      (∀ v : SvcId, t.svcs[v] = { s.svcs[v] with
        timer := ran ((s.svcBlock v).shortfallConfirm.toNat * 1000000) s.svcs[v].timer }) ∧
      (∀ i : LpId, t.provs[i] = { s.provs[i] with
        timer := ran (match s.provided i with
          | some v => (s.svcBlock v).surplusHold.toNat * 1000000
          | none => 0) s.provs[i].timer }) ∧
      t.link = { s.link with
        silence := left s.link.silence,
        inProgress := s.link.inProgress.map fun f => { f with phase := match f.phase with
          | .backingOff x => .backingOff (left x)
          | p => p } } ∧
      t.peers = { entries := s.peers.entries.map fun e => { e with
                    age := left e.age, answerHold := left e.answerHold },
                  overflow := left s.peers.overflow, sharedHold := left s.peers.sharedHold } ∧
      t.round = { s.round with window := left s.round.window, guardT := left s.round.guardT } ∧
      t.mode = { s.mode with listenIn := left s.mode.listenIn, beaconT := left s.mode.beaconT } ∧
      t.units = s.units ∧ t.lines = s.lines ∧ t.faults = s.faults ∧ t.config = s.config ∧
      t.station = s.station ∧ t.loader = s.loader ∧ t.pending = []

/-- Every command of the table answers a next state, whatever the state, and leaves the commands that wait behind it:
the block neither faults nor refuses. -/
def Obligations.EveryCommandCompletes : Prop :=
  ∀ (c : Instr) (s : State), ∃ t : State, exec c s = .next t ∧ t.pending = s.pending

/-! ### Power-on and the loader -/

/-- POWER_ON leaves the power-on values of every block, with the loader about to read the header. That it is
State.reset, and that the commands that wait stay, is log entry 16; the values of it that the manual does not give are
log entries 6 (the line is not seen idle), 9 (the station fields) and 29 (the model's own fields). -/
def Obligations.PowerOnValues : Prop :=
  ∀ s : State, ∃ t : State, exec .powerOn s = .next t ∧ t = State.reset.withPending s.pending ∧
    t.loader.phase = .header ∧ t.config = none ∧ t.mode.station = none ∧ t.mode.plant = .day ∧
    t.mode.isolated = false ∧ t.mode.nightLevel = none ∧ t.nightSignal = false ∧ t.mode.listenIn = .off ∧
    t.mode.beaconT = .off ∧ t.mode.seq = 0 ∧ t.mode.toggle = false ∧
    (∀ i : LpId, t.stopLine i = false ∧ t.units[i] = ActUnit.cleared ∧ t.faults.lps[i] = FaultRecord.clear) ∧
    t.faults.station = FaultRecord.clear ∧ t.faults.flags = 0 ∧ t.faults.uptime = 0 ∧
    t.topAlert = none ∧ t.alertAsserted = false ∧
    t.link.inProgress = none ∧ t.link.pagesLeft = [] ∧ t.link.waitIntent = none ∧ t.link.waitReply = none ∧
    t.link.waitPages = [] ∧ t.link.waitBeacon = none ∧ t.link.abandonRun = 0 ∧ t.link.silence = .off ∧
    t.link.heard = false ∧ t.link.latch = false ∧ t.link.counters = LinkCounters.zero ∧
    t.peers.entries = [] ∧ t.peers.overflow = .off ∧ t.peers.sharedHold = .off ∧ t.viewOverflow = false ∧
    t.round.phase = .closed ∧ t.round.window = .off ∧ t.round.guardT = .off ∧ t.round.list = [] ∧
    t.round.heard = 0 ∧ t.round.refused = 0 ∧ t.round.join = false ∧ t.round.doubtful = false ∧
    t.round.queue = [] ∧ t.round.outstanding = none ∧ t.round.last = none

/-- The state right after reset meets every invariant stated below. -/
def Obligations.ResetMeetsTheInvariants : Prop :=
  State.reset.peers.Wf ∧ State.reset.RoundPairs ∧ State.reset.ChannelsWf ∧ State.reset.QueueMarks ∧
    State.reset.faults.Wf ∧ State.reset.link.Wf ∧ State.reset.FollowersHeld ∧ State.reset.LoaderHoldsNothing ∧
    Quiet State.reset

/-- The loader reads on, or ends REJECTED: a failed attempt that is not the third starts a new one, a good header
calls for the body, a body that stops short is a failed attempt; and every way a load ends REJECTED, with the fault it
reports and the station fields it leaves. A structural error is the first in check order that is found, with its
sub-code and the object it is found in. That a short body is a failed attempt is log entry 18, and that an unused
channel holds retry count 0 is log entry 25. -/
def Obligations.LoadersReadOrReject : Prop :=
  (∀ s : State,
    (s.loader.phase ≠ .done → s.loader.failures < 2 →
      exec .loadAttemptFailed s =
        .next (s.withLoader { s.loader with phase := .header, failures := s.loader.failures + 1 })) ∧
    (∀ (length sum : Half), s.loader.phase = .header → length.toNat = 377 →
      exec (.headerRead 1 length sum) s = .next (s.withLoader { s.loader with phase := .body sum })) ∧
    (∀ (sum : Half) (body : List Byte), s.loader.phase = .body sum → body.length < 377 →
      exec (.bodyRead body) s = exec .loadAttemptFailed s)) ∧
  (∀ s : State,
    (s.loader.phase ≠ .done → 2 ≤ s.loader.failures →
      ∃ t, exec .loadAttemptFailed s = .next t ∧ s.LoadRejected t .imageMissing StationFields.default) ∧
    (∀ (format : Byte) (length sum : Half), s.loader.phase = .header → format ≠ 1 ∨ length.toNat ≠ 377 →
      ∃ t, exec (.headerRead format length sum) s = .next t ∧
        s.LoadRejected t .imageFormat StationFields.default) ∧
    ∀ (sum : Half) (body : List Byte), s.loader.phase = .body sum → body.length = 377 →
      (bodySum body ≠ sum → ∃ t, exec (.bodyRead body) s = .next t ∧
        s.LoadRejected t .imageSum StationFields.default) ∧
      (bodySum body = sum → ∀ e, stationError (rawImage body) = some e →
        ∃ t, exec (.bodyRead body) s = .next t ∧
          s.LoadRejected t (.imageStructure e.1 e.2) StationFields.default) ∧
      (bodySum body = sum → stationError (rawImage body) = none → ∀ e, laterError (rawImage body) = some e →
        ∃ t, exec (.bodyRead body) s = .next t ∧
          s.LoadRejected t (.imageStructure e.1 e.2) (clampStation (rawImage body)))) ∧
  ∀ body : List Byte,
    let found (checks : List (Bool × Nat × ImageObject)) := (checks.find? Prod.fst).map Prod.snd
    let noService (x : Byte) := x ≠ 255 ∧ 11 < x.toNat
    let unusedService (x : Byte) := x.toNat ≤ 11 ∧ byteAt body (21 + 7 * x.toNat) ≠ 1
    stationError (rawImage body) = found
      [(decide (byteAt body 0 = 0 ∨ 60 < (byteAt body 0).toNat), 1, .station),
       (decide (1 < (byteAt body 2).toNat), 3, .station)] ∧
    laterError (rawImage body) = found
      ([((planAt body).planNumber == 0, 2, .plan)] ++
      (svcIds.map fun v => (decide (1 < (byteAt body (21 + 7 * v.val)).toNat), 3, .service v)) ++
      (lpIds.flatMap fun i =>
        let b := lpAt body i
        let pairs := [b.pair0, b.pair1, b.pair2].take b.pairCount.toNat
        [(decide (1 < b.inUse.toNat), 3),
          (decide (b.inUse = 1 ∧ (1 < b.control.toNat ∨ 4 < b.activityMode.toNat ∨
            b.activityMode = 1 ∧ 2 < b.edge.toNat ∨ b.activityMode = 2 ∧ 1 < b.loadPolarity.toNat ∨
            1 < b.reportOnExhaust.toNat)), 3),
          (decide (b.inUse = 1 ∧ (b.leader ≠ 255 ∧ 7 < b.leader.toNat ∨ noService b.provides)), 4),
          (decide (b.inUse = 1 ∧ 3 < b.pairCount.toNat), 5),
          (decide (b.inUse = 1 ∧ ∃ p ∈ pairs, 11 < p.service.toNat), 4),
          (decide (b.inUse = 1 ∧ b.provides ≠ 255 ∧ b.capacity = 0), 6),
          (decide (b.inUse = 1 ∧ (unusedService b.provides ∨ ∃ p ∈ pairs, unusedService p.service)), 7),
          (decide (b.inUse = 1 ∧ ¬(pairs.map RawPair.service).Nodup), 8)].map
            fun x => (x.1, x.2, ImageObject.loadPoint i)) ++
      lpIds.flatMap fun i =>
        let b := lpAt body i
        let inUse (l : Nat) := byteAt body (105 + 34 * l) = 1
        let mode (l : Nat) := byteAt body (107 + 34 * l)
        let leads := b.inUse = 1 ∧ b.leader.toNat ≤ 7
        let mate := if i.val % 2 = 0 then i.val + 1 else i.val - 1
        [(decide (leads ∧ b.leader.toNat = i.val), 9),
          (decide (leads ∧ ¬inUse b.leader.toNat), 10),
          (decide (leads ∧ (byteAt body (113 + 34 * b.leader.toNat)).toNat ≤ 7), 11),
          (decide (b.inUse = 1 ∧ b.activityMode = 3 ∧ i.val % 2 = 1), 12),
          (decide (b.inUse = 1 ∧ b.activityMode = 3 ∧ ¬(inUse mate ∧ mode mate = 4)), 13),
          (decide (b.inUse = 1 ∧ b.activityMode = 4 ∧ (i.val % 2 = 0 ∨ ¬(inUse mate ∧ mode mate = 3))), 14)].map
            fun x => (x.1, x.2, ImageObject.loadPoint i))

/-- A load that ends GOOD or GOOD_CLAMPED: the configuration in force, the load record, every channel and unit at its
power-on values, the balance cleared but for the shortfall timers whose condition holds as LISTEN_IN begins, and
LISTEN_IN with its timers and its first beacon handed, with the reply behind it that a RESTART in PASSIVE is owed (no
beacon waits while the loader reads, as EveryStepKeepsRecordsAndCounters says). An in-use channel enters RUNNING under
an asserted HANDn too (log entry 19), and an unused one holds retry count 0 (log entry 25). -/
def Obligations.LoadEndsGood : Prop :=
  ∀ (s : State) (sum : Half) (body : List Byte) (station : StationFields) (c : Configuration)
    (marks : List ClampMark),
    s.loader.phase = .body sum → body.length = 377 → checkBody sum body = .accepted station c marks →
    s.link.waitBeacon = none →
    ∃ t, exec (.bodyRead body) s = .next t ∧
      t.config = some c ∧ t.station = station ∧
      t.loader = { s.loader with
        phase := .done, replySeq := none, status := some (if marks = [] then .good else .goodClamped),
        clampCount := min 255 marks.length, firstClamped := marks.head? } ∧
      t.mode = { s.mode with
        station := some .listenIn
        plant := .day
        listenIn := .running (max 8 (4 * station.statusInterval.toNat) * 1000000)
        beaconT := .running (station.statusInterval.toNat * 1000000)
        seq := s.mode.seq + 1 } ∧
      t.lines = s.lines ∧ t.peers = s.peers ∧ t.round = s.round ∧
      (∀ i : LpId, t.stopLine i = false ∧ t.provs[i] = ProvBalance.clear ∧
        (c.lps[i].inUse = 1 → t.chans[i] = { Chan.powerOn .running c.lps[i].retries.toNat with
          watch := if s.lines[i].stoprb = some true then .running 200000 else .off }) ∧
        (c.lps[i].inUse ≠ 1 → t.chans[i] = Chan.powerOn .unused 0) ∧
        t.units[i] = { ActUnit.cleared with
          loaded := if c.lps[i].inUse = 1 ∧ c.lps[i].mode = .loadLevel then
              s.lines[i].act.map fun high => if c.lps[i].loadPolarity = 1 then !high else high
            else none }) ∧
      (∀ v : SvcId, t.svcs[v] = { SvcBalance.clear with
        timer := if t.shortOf v then .running 0 else .off }) ∧
      (marks = [] → t.faults = s.faults) ∧
      (marks ≠ [] → t.faults = { s.faults with
        station := s.faults.station.report .clamped s.faults.uptime
          (if s.loader.warm then .passive else .startUp) false
        flags := s.faults.flags ||| EventClass.configFault.bit }) ∧
      ∃ f : OutFrame, f.origin = .beacon true ∧
        f.frame = { kind := 1, source := t.ownAddress, destination := 255, seq := s.mode.seq,
                    payload := beaconPayload t } ∧
        t.link = (match s.loader.replySeq with
          | none => { s.link with waitBeacon := some f }.takeNext
          | some q => { { s.link with waitBeacon := some f }.takeNext with
              waitReply := some { origin := .reply, frame :=
                { kind := 10, source := t.ownAddress, destination := 0, seq := q, payload := [9, 7, 2] } } }.takeNext)

/-- What an accepted image's configuration satisfies: every field that applies lies in its range, none of the
structural errors is there (a code, an index, a count, a capacity, an unused service, a duplicate, a leader or a pair
that does not stand), and without a clamp it is held as stored, with zeros in the fields of unused services. Each
field of the clamp table that applies is held as stored or, out of its range, at the nearer limit, every other field
as stored, and the clamps are exactly the fields out of range, in check order, where the fields of a load point stand
in the order of the table (log entry 10). That demand pairs beyond the pair count are held as stored too is log entry
33. -/
def Obligations.AcceptedImagesAreSound : Prop :=
  (∀ (sum : Half) (body : List Byte) (station : StationFields) (c : Configuration) (marks : List ClampMark),
    checkBody sum body = .accepted station c marks →
    (∃ a, station.address = some a ∧ isStation a = true) ∧
    (1 ≤ station.statusInterval.toNat ∧ station.statusInterval.toNat ≤ 10) ∧
    (1 ≤ station.alertThreshold.toNat ∧ station.alertThreshold.toNat ≤ 7) ∧
    (∀ k : Fin 9, station.levels[k].toNat ≤ 7) ∧ station.followPlantNight.toNat ≤ 1 ∧
    c.plan.planNumber ≠ 0 ∧ (100 ≤ c.plan.w.toNat ∧ c.plan.w.toNat ≤ 2000) ∧
    (100 ≤ c.plan.g.toNat ∧ c.plan.g.toNat ≤ 2000) ∧ (1 ≤ c.plan.b.toNat ∧ c.plan.b.toNat ≤ 1023) ∧
    (∀ v : SvcId, (byteAt body (21 + 7 * v.val)).toNat ≤ 1 ∧
      (c.services[v].inUse = 1 ↔ byteAt body (21 + 7 * v.val) = 1) ∧
      (c.services[v].inUse = 1 → c.services[v].margin.toNat ≤ 100 ∧
        10 ≤ c.services[v].surplusHold.toNat ∧ c.services[v].surplusHold.toNat ≤ 3600 ∧
        1 ≤ c.services[v].shortfallConfirm.toNat ∧ c.services[v].shortfallConfirm.toNat ≤ 60) ∧
      (c.services[v].inUse ≠ 1 → c.services[v] = serviceBlank)) ∧
    (∀ i : LpId, c.lps[i].inUse.toNat ≤ 1 ∧ (c.lps[i].inUse = 1 →
      c.lps[i].control.toNat ≤ 1 ∧ c.lps[i].activityMode.toNat ≤ 4 ∧ c.lps[i].reportOnExhaust.toNat ≤ 1 ∧
      (c.lps[i].activityMode = 1 → c.lps[i].edge.toNat ≤ 2) ∧
      (c.lps[i].activityMode = 2 → c.lps[i].loadPolarity.toNat ≤ 1) ∧
      (c.lps[i].leader = 255 ∨ c.lps[i].leader.toNat ≤ 7) ∧
      (c.lps[i].provides = 255 ∨ c.lps[i].provides.toNat ≤ 11) ∧
      ∀ p ∈ c.lps[i].pairs, p.service.toNat ≤ 11)) ∧
    ∀ i : LpId, c.lps[i].inUse = 1 →
      c.lps[i].level.toNat ≤ 7 ∧ c.lps[i].runOn.toNat ≤ 600 ∧ c.lps[i].leadTime.toNat ≤ 600 ∧
      (1 ≤ c.lps[i].startTimeout.toNat ∧ c.lps[i].startTimeout.toNat ≤ 120) ∧
      (1 ≤ c.lps[i].startSettle.toNat ∧ c.lps[i].startSettle.toNat ≤ 120) ∧
      (1 ≤ c.lps[i].retries.toNat ∧ c.lps[i].retries.toNat ≤ 7) ∧
      (c.lps[i].mode ≠ .paired → 10 ≤ c.lps[i].idleLimit.toNat ∧ c.lps[i].idleLimit.toNat ≤ 7200) ∧
      (c.lps[i].control = 0 → 1 ≤ c.lps[i].grantTimeout.toNat ∧ c.lps[i].grantTimeout.toNat ≤ 120) ∧
      (c.lps[i].control = 1 → 1 ≤ c.lps[i].feedbackTimeout.toNat ∧ c.lps[i].feedbackTimeout.toNat ≤ 60) ∧
      (c.lps[i].mode = .rotation → 10 ≤ c.lps[i].coastLimit.toNat ∧ c.lps[i].coastLimit.toNat ≤ 900 ∧
        1 ≤ c.lps[i].standstillSamples.toNat ∧ c.lps[i].standstillSamples.toNat ≤ 15) ∧
      (∀ v, c.lps[i].providesOf = some v →
        c.services[v].inUse = 1 ∧ 1 ≤ c.lps[i].capacity.toNat ∧ c.lps[i].capacity.toNat ≤ 4000) ∧
      (∀ d ∈ c.lps[i].demands, c.services[d.1].inUse = 1 ∧ 1 ≤ d.2) ∧
      (c.lps[i].demands.map Prod.fst).Nodup ∧ c.lps[i].pairCount.toNat ≤ 3 ∧
      (∀ l, c.lps[i].leaderOf = some l → l ≠ i ∧ c.lps[l].inUse = 1 ∧ c.lps[l].leaderOf = none) ∧
      (c.lps[i].mode = .rotation → i.val % 2 = 0 ∧ c.lps[partner i].inUse = 1 ∧
        c.lps[partner i].mode = .paired) ∧
      (c.lps[i].mode = .paired → i.val % 2 = 1 ∧ c.lps[partner i].inUse = 1 ∧
        c.lps[partner i].mode = .rotation)) ∧
  (∀ (sum : Half) (body : List Byte) (station : StationFields) (c : Configuration),
    checkBody sum body = .accepted station c [] →
    c.plan = planAt body ∧ (∀ i : LpId, c.lps[i] = lpAt body i) ∧
    ∀ v : SvcId, c.services[v] =
      if byteAt body (21 + 7 * v.val) = 1 then serviceAt body (21 + 7 * v.val) else serviceBlank) ∧
  ∀ (sum : Half) (body : List Byte) (station : StationFields) (c : Configuration) (marks : List ClampMark),
    checkBody sum body = .accepted station c marks →
    let held {w : Nat} (lo hi : Nat) (x : BitVec w) : BitVec w := BitVec.ofNat w (max lo (min hi x.toNat))
    let service (v : SvcId) := serviceAt body (21 + 7 * v.val)
    let units (b : LpBlock) (k : Nat) (p : RawPair) : RawPair :=
      if k < b.pairCount.toNat then { p with units := held 1 255 p.units } else p
    let outside (object : ImageObject) (inUse : Bool) (fields : List (Bool × Nat × Nat × Nat × Nat)) :=
      fields.filterMap fun (applies, offset, lo, hi, value) =>
        if inUse = true ∧ applies = true ∧ (value < lo ∨ hi < value) then some (object, offset) else none
    station = { address := some (byteAt body 0), statusInterval := held 1 10 (byteAt body 1),
                followPlantNight := byteAt body 2, alertThreshold := held 1 7 (byteAt body 3),
                levels := Vector.ofFn fun k => held 0 7 (byteAt body (4 + k.val)) } ∧
    c.plan = { planAt body with
      w := held 100 2000 (planAt body).w, g := held 100 2000 (planAt body).g, b := held 1 1023 (planAt body).b } ∧
    (∀ v : SvcId, byteAt body (21 + 7 * v.val) = 1 → c.services[v] = { service v with
      margin := held 0 100 (service v).margin, surplusHold := held 10 3600 (service v).surplusHold,
      shortfallConfirm := held 1 60 (service v).shortfallConfirm }) ∧
    (∀ i : LpId, let b := lpAt body i
      (b.inUse ≠ 1 → c.lps[i] = b) ∧
      (b.inUse = 1 → c.lps[i] = { b with
        level := held 0 7 b.level
        idleLimit := if b.activityMode = 4 then b.idleLimit else held 10 7200 b.idleLimit
        runOn := held 0 600 b.runOn
        leadTime := held 0 600 b.leadTime
        capacity := if b.provides = 255 then b.capacity else held 1 4000 b.capacity
        pair0 := units b 0 b.pair0
        pair1 := units b 1 b.pair1
        pair2 := units b 2 b.pair2
        grantTimeout := if b.control = 0 then held 1 120 b.grantTimeout else b.grantTimeout
        startTimeout := held 1 120 b.startTimeout
        startSettle := held 1 120 b.startSettle
        feedbackTimeout := if b.control = 1 then held 1 60 b.feedbackTimeout else b.feedbackTimeout
        retries := held 1 7 b.retries
        coastLimit := if b.activityMode = 3 then held 10 900 b.coastLimit else b.coastLimit
        standstillSamples := if b.activityMode = 3 then held 1 15 b.standstillSamples
          else b.standstillSamples })) ∧
    marks =
      outside .station true ([(true, 1, 1, 10, (byteAt body 1).toNat), (true, 3, 1, 7, (byteAt body 3).toNat)] ++
        (List.range 9).map fun k => (true, 4 + k, 0, 7, (byteAt body (4 + k)).toNat)) ++
      outside .plan true [(true, 2, 100, 2000, (planAt body).w.toNat), (true, 4, 100, 2000, (planAt body).g.toNat),
        (true, 6, 1, 1023, (planAt body).b.toNat)] ++
      (svcIds.flatMap fun v => outside (.service v) (decide ((service v).inUse = 1))
        [(true, 1, 0, 100, (service v).margin.toNat), (true, 4, 10, 3600, (service v).surplusHold.toNat),
          (true, 6, 1, 60, (service v).shortfallConfirm.toNat)]) ++
      lpIds.flatMap fun i => let b := lpAt body i
        outside (.loadPoint i) (decide (b.inUse = 1))
          [(true, 7, 0, 7, b.level.toNat), (decide (b.activityMode ≠ 4), 5, 10, 7200, b.idleLimit.toNat),
            (true, 9, 0, 600, b.runOn.toNat), (true, 11, 0, 600, b.leadTime.toNat),
            (decide (b.provides ≠ 255), 14, 1, 4000, b.capacity.toNat),
            (decide (0 < b.pairCount.toNat), 19, 1, 255, b.pair0.units.toNat),
            (decide (1 < b.pairCount.toNat), 21, 1, 255, b.pair1.units.toNat),
            (decide (2 < b.pairCount.toNat), 23, 1, 255, b.pair2.units.toNat),
            (decide (b.control = 0), 25, 1, 120, b.grantTimeout.toNat),
            (true, 33, 1, 120, b.startTimeout.toNat), (true, 16, 1, 120, b.startSettle.toNat),
            (decide (b.control = 1), 26, 1, 60, b.feedbackTimeout.toNat), (true, 27, 1, 7, b.retries.toNat),
            (decide (b.activityMode = 3), 29, 10, 900, b.coastLimit.toNat),
            (decide (b.activityMode = 3), 32, 1, 15, b.standstillSamples.toNat)]

/-- The configuration in force and the station fields change at a load and nowhere else. -/
def Obligations.ConfigurationChangesOnlyAtALoad : Prop :=
  ∀ (c : Instr) (s t : State), isLoaderCommand c = false → exec c s = .next t →
    t.config = s.config ∧ t.station = s.station

/-! ### Activity counters -/

/-- A STROKE unit counts the edges its edge field selects and reports activity, which reloads an armed idle timer and
takes a channel in STOP_PENDING that is no follower back to IDLE_WATCH; an edge of the other kind only changes the
level. -/
def Obligations.StrokeEdgesCount : Prop :=
  ∀ (i : LpId) (high l : Bool) (s : State), s.loaded = true → s.unitMode i = .stroke →
    s.lines[i].act = some l → l ≠ high →
    ((s.block i).edge = 0 ∧ high = true ∨ (s.block i).edge = 1 ∧ high = false ∨ (s.block i).edge = 2 →
      ∃ u, u = (s.withLines u.lines).withUnits u.units ∧
        u.lines = s.lines.set i { s.lines[i] with act := some high } ∧
        u.units = s.units.set i { s.units[i] with
          count := s.units[i].count + 1
          idle := if s.units[i].armed then s.reload i else s.units[i].idle
          expiryReported := !s.units[i].armed && s.units[i].expiryReported } ∧
        (s.chans[i].state ≠ .stopPending ∨ s.isFollower i = true → exec (.strokeEdge i high) s = .next u) ∧
        (s.chans[i].state = .stopPending → s.isFollower i = false →
          exec (.strokeEdge i high) s = .next (settle (enter i .idleWatch u)))) ∧
    ((s.block i).edge = 0 ∧ high = false ∨ (s.block i).edge = 1 ∧ high = true →
      exec (.strokeEdge i high) s = .next (s.setLines i { s.lines[i] with act := some high }))

/-- A LOAD_LEVEL unit: a change from unloaded to loaded counts and reports activity, a change back changes the loaded
field alone. -/
def Obligations.LoadLevelChangesCount : Prop :=
  ∀ (i : LpId) (high l : Bool) (s : State), s.loaded = true → s.unitMode i = .loadLevel →
    s.lines[i].act = some l → l ≠ high →
    ((if (s.block i).loadPolarity = 1 then !high else high) = true → s.units[i].loaded ≠ some true →
      ∃ u, u = (s.withLines u.lines).withUnits u.units ∧
        u.lines = s.lines.set i { s.lines[i] with act := some high } ∧
        u.units = s.units.set i { s.units[i] with
          loaded := some true
          count := s.units[i].count + 1
          idle := if s.units[i].armed then s.reload i else s.units[i].idle
          expiryReported := !s.units[i].armed && s.units[i].expiryReported } ∧
        (s.chans[i].state ≠ .stopPending ∨ s.isFollower i = true → exec (.loadLevelChange i high) s = .next u) ∧
        (s.chans[i].state = .stopPending → s.isFollower i = false →
          exec (.loadLevelChange i high) s = .next (settle (enter i .idleWatch u)))) ∧
    ((if (s.block i).loadPolarity = 1 then !high else high) = false →
      exec (.loadLevelChange i high) s =
        .next ((s.setLines i { s.lines[i] with act := some high }).setUnit i
          { s.units[i] with loaded := some false }))

/-- Each edge of a filtered phase steps the position of the ROTATION unit `a` by the table of R22; `i` is the load
point whose line has the edge. -/
def Obligations.QuadratureEdgesStep : Prop :=
  ∀ (i a : LpId) (high l : Bool) (s : State), s.loaded = true → s.lines[i].act = some l → l ≠ high →
    (a = i ∧ s.unitMode i = .rotation ∨
      a = partner i ∧ s.unitMode i = .paired ∧ s.unitMode (partner i) = .rotation) →
    (s.lines[partner i].act = none →
      exec (.quadratureEdge i high) s = .next (s.setLines i { s.lines[i] with act := some high })) ∧
    ∀ other : Bool, s.lines[partner i].act = some other →
      ∃ t, exec (.quadratureEdge i high) s = .next t ∧ t = (s.withLines t.lines).withUnits t.units ∧
        t.lines = s.lines.set i { s.lines[i] with act := some high } ∧
        (∀ j, j ≠ a → t.units[j] = s.units[j]) ∧ t.units[a] = { s.units[a] with count := t.units[a].count } ∧
        (a = i → high = true → other = false → t.units[a].count = s.units[a].count + 1) ∧
        (a = i → high = true → other = true → t.units[a].count = s.units[a].count - 1) ∧
        (a = i → high = false → other = true → t.units[a].count = s.units[a].count + 1) ∧
        (a = i → high = false → other = false → t.units[a].count = s.units[a].count - 1) ∧
        (a ≠ i → high = true → other = true → t.units[a].count = s.units[a].count + 1) ∧
        (a ≠ i → high = true → other = false → t.units[a].count = s.units[a].count - 1) ∧
        (a ≠ i → high = false → other = false → t.units[a].count = s.units[a].count + 1) ∧
        (a ≠ i → high = false → other = true → t.units[a].count = s.units[a].count - 1)

/-- A change of both phases at once leaves the position; that it does so too where one of the two levels is the one
its line has, and then takes the other level alone, is the model's choice (log entry 8). A sample of a unit that is
not coasting: its delta, the sign, the direction change, and activity or none. A sample of a unit that is coasting:
the run count rises or falls back to 0, and standstill, reported when it reaches standstill_samples, takes the channel
from COASTING to STOPPED. -/
def Obligations.RotationSamples : Prop :=
  (∀ (i : LpId) (highA highB : Bool) (s : State), s.loaded = true → s.unitMode i = .rotation →
    ∃ t, exec (.bothPhasesChange i highA highB) s = .next t ∧ t = s.withLines t.lines ∧
      t.lines[i] = { s.lines[i] with act := some highA } ∧
      t.lines[partner i] = { s.lines[partner i] with act := some highB } ∧
      ∀ j, j ≠ i → j ≠ partner i → t.lines[j] = s.lines[j]) ∧
  (∀ (i : LpId) (s : State), s.unitMode i = .rotation → s.units[i].coasting = false →
    let d := s.units[i].count - s.units[i].lastPosition
    let turned := d ≠ 0 ∧ (s.units[i].lastSign = some .plus ∧ d.toInt < 0 ∨
      s.units[i].lastSign = some .minus ∧ 0 < d.toInt)
    let active := turned ∨ (s.block i).standstillThreshold.toNat < d.toInt.natAbs
    ∃ u, u = s.withUnits u.units ∧ (∀ j, j ≠ i → u.units[j] = s.units[j]) ∧
      u.units[i].count = s.units[i].count ∧ u.units[i].lastDelta = d ∧
      u.units[i].lastPosition = s.units[i].count ∧
      u.units[i].lastSign =
        (if d = 0 then s.units[i].lastSign else if d.toInt < 0 then some .minus else some .plus) ∧
      (turned → u.units[i].dirCount = min 255 (s.units[i].dirCount + 1) ∧ u.units[i].dirFlag = true) ∧
      (¬turned → u.units[i].dirCount = s.units[i].dirCount ∧ u.units[i].dirFlag = s.units[i].dirFlag) ∧
      (active → s.units[i].armed = true → u.units[i].idle = s.reload i ∧ u.units[i].expiryReported = false) ∧
      (¬active ∨ s.units[i].armed = false → u.units[i].idle = s.units[i].idle ∧
        u.units[i].expiryReported = s.units[i].expiryReported) ∧
      u.units[i].armed = s.units[i].armed ∧ u.units[i].runCount = s.units[i].runCount ∧
      (¬active ∨ s.chans[i].state ≠ .stopPending ∨ s.isFollower i = true →
        exec (.rotationSample i) s = .next u) ∧
      (active → s.chans[i].state = .stopPending → s.isFollower i = false →
        exec (.rotationSample i) s = .next (settle (enter i .idleWatch u)))) ∧
  (∀ (i : LpId) (s : State), s.unitMode i = .rotation → s.units[i].coasting = true →
    let d := s.units[i].count - s.units[i].lastPosition
    let n := (s.block i).standstillSamples.toNat
    let run := if d.toInt.natAbs ≤ (s.block i).standstillThreshold.toNat then min n (s.units[i].runCount + 1) else 0
    ∃ u, u = s.withUnits u.units ∧ (∀ j, j ≠ i → u.units[j] = s.units[j]) ∧
      u.units[i] = { s.units[i] with
        lastDelta := d, lastPosition := s.units[i].count, runCount := run,
        lastSign := if d = 0 then s.units[i].lastSign else if d.toInt < 0 then some .minus else some .plus } ∧
      (run ≠ n ∨ n ≤ s.units[i].runCount ∨ s.chans[i].state ≠ .coasting → exec (.rotationSample i) s = .next u) ∧
      (run = n → s.units[i].runCount < n → s.chans[i].state = .coasting →
        exec (.rotationSample i) s = .next (settle (enter i .stopped u))))

/-- An armed idle timer decreases by one second at a time; a loaded LOAD_LEVEL unit, a disarmed timer and one that has
expired hold. The decrease to 0 reports idle expiry: the channel leaves IDLE_WATCH, a provider for STOP_PENDING and
any other for STOP_REQUESTED. IDLE_EXPIRY and the last IDLE_TIMER_DECREASE are this one event, and a timer that
activity has reloaded first does not expire (log entry 7). -/
def Obligations.IdleTimersRunDown : Prop :=
  (∀ (i : LpId) (s : State),
    (s.units[i].armed = true → s.units[i].expiryReported = false →
      ¬(s.unitMode i = .loadLevel ∧ s.units[i].loaded = some true) → 1 < s.units[i].idle →
      exec (.idleTimerDecrease i) s = .next (s.setUnit i { s.units[i] with idle := s.units[i].idle - 1 }) ∧
      exec (.idleExpiry i) s = .next s) ∧
    (s.units[i].armed = false ∨ s.units[i].expiryReported = true ∨
        s.unitMode i = .loadLevel ∧ s.units[i].loaded = some true →
      exec (.idleTimerDecrease i) s = .next s ∧ exec (.idleExpiry i) s = .next s)) ∧
  (∀ (i : LpId) (s : State), s.units[i].armed = true → s.units[i].expiryReported = false →
    ¬(s.unitMode i = .loadLevel ∧ s.units[i].loaded = some true) → s.units[i].idle ≤ 1 →
    let u := s.setUnit i { s.units[i] with idle := 0, expiryReported := true }
    (s.chans[i].state = .idleWatch →
      exec (.idleExpiry i) s =
        .next (settle (enter i (if s.isProvider i then .stopPending else .stopRequested) u))) ∧
    (s.chans[i].state ≠ .idleWatch → exec (.idleExpiry i) s = .next u) ∧
    exec (.idleTimerDecrease i) s = exec (.idleExpiry i) s)

/-! ### Channels: entering a state, and the consequences of an event -/

/-- What entering a channel state does to the channel, its unit, its entry in the queue and its surplus record, and
that it changes nothing else. -/
def Obligations.EnteringAState : Prop :=
  ∀ (cause : Option StartCause) (i : LpId) (st : LpState) (s : State),
    let t := enterFor cause i st s
    let b := s.block i
    t.chans[i].state = st ∧ t.stopLine i = st.stopAsserted ∧
    t.chans[i].retry = s.chans[i].retry ∧ t.chans[i].recalls = s.chans[i].recalls ∧
    t.chans[i].autoOff = s.chans[i].autoOff ∧ t.chans[i].lockout = s.chans[i].lockout ∧
    t.chans[i].entryQueued = false ∧ t.chans[i].overrun = false ∧ t.chans[i].surplusHeld = false ∧
    t.chans[i].leadT = .off ∧
    t.chans[i].stopT = (if st = .stopRequested then
      .running ((if b.control = 0 then b.grantTimeout.toNat else b.feedbackTimeout.toNat) * 1000000) else .off) ∧
    t.chans[i].coastT = (if st = .coasting then .running (b.coastLimit.toNat * 1000000) else .off) ∧
    t.chans[i].settleT = (if st = .starting ∧ s.runPresent i = true then
      .running (b.startSettle.toNat * 1000000) else .off) ∧
    t.chans[i].startT = (if st = .starting ∧ s.runPresent i = false then
      .running (b.startTimeout.toNat * 1000000) else .off) ∧
    t.chans[i].runOnT = (if st = .stopPending ∧ s.isFollower i = true ∧ b.runOn ≠ 0 then
      .running (b.runOn.toNat * 1000000) else .off) ∧
    t.chans[i].runOnDone = decide (st = .stopPending ∧ s.isFollower i = true ∧ b.runOn = 0) ∧
    t.chans[i].cause = (if st = .startPending then cause else none) ∧
    t.chans[i].watch = (if s.stopLine i = st.stopAsserted then s.chans[i].watch
      else if s.chans[i].lockout = .hard ∨ s.lines[i].stoprb = none ∨ s.lines[i].stoprb = some st.stopAsserted then
        .off else .running 200000) ∧
    t.units[i] = { s.units[i] with
      armed := decide (st = .idleWatch), coasting := decide (st = .coasting), runCount := 0,
      idle := if st = .idleWatch then s.reload i else s.units[i].idle,
      expiryReported := s.units[i].expiryReported && decide (st ≠ .idleWatch),
      dirFlag := s.units[i].dirFlag && !decide (st = .idleWatch ∧ s.unitMode i = .rotation) } ∧
    t.round = { s.round with queue := s.round.queue.filter fun q => q.entry.lp != i } ∧
    t.provs[i] = { s.provs[i] with
      reported := s.provs[i].reported && decide (s.chans[i].state ≠ .stopPending) } ∧
    (∀ j, j ≠ i → t.chans[j] = s.chans[j] ∧ t.units[j] = s.units[j] ∧ t.provs[j] = s.provs[j]) ∧
    t = (((s.withRound t.round).withChans t.chans).withUnits t.units).withProvs t.provs

/-- What the consequences of an event can never change, however many there are. -/
def Obligations.ConsequencesKeep : Prop :=
  ∀ s : State, let t := settle s
    t.loader = s.loader ∧ t.station = s.station ∧ t.config = s.config ∧ t.lines = s.lines ∧ t.peers = s.peers ∧
    t.pending = s.pending ∧ t.mode = { s.mode with plant := t.mode.plant } ∧
    t.round = { s.round with
      queue := t.round.queue, nextSerial := t.round.nextSerial, outstanding := t.round.outstanding } ∧
    (t.faults = s.faults ∨
      t.faults = { s.faults with flags := s.faults.flags ||| EventClass.recalled.bit }) ∧
    t.link.counters = s.link.counters ∧ t.link.latch = s.link.latch ∧ t.link.heard = s.link.heard ∧
    t.link.silence = s.link.silence ∧ t.link.abandonRun = s.link.abandonRun ∧
    ∀ i : LpId, t.chans[i].lockout = s.chans[i].lockout ∧ t.units[i].count = s.units[i].count ∧
      t.units[i].loaded = s.units[i].loaded ∧ t.units[i].lastDelta = s.units[i].lastDelta ∧
      t.units[i].lastPosition = s.units[i].lastPosition ∧ t.units[i].lastSign = s.units[i].lastSign ∧
      t.units[i].dirCount = s.units[i].dirCount

/-- Where nothing is due an event has no further consequence, and: a follower's stop request stands only under its
leader's; no channel stands before a step that the rules of its state take at once (a confirmed stop, a recall, R39,
the end of run-on, the post of a STOP or START entry, the call-off of a start, the lead timer, the calls of a leader,
a start from STOPPED); the timers and marks of the balance calculator stand as their conditions are; the plant mode
agrees with the night signal and the channels; no INTENT frame is left to hand; under local stagger no uncommitted
START entry is left while no own load point is in STARTING (log entry 45). Otherwise the consequence that is due is
taken, and settling goes on from what it leaves, up to the model's bound (log entry 2): which rule calls for it, and
which state it enters (EnteringAState says what that leaves), which record, timer or mark it changes, which entry it
posts, which plant mode it enters (PlantModeEntries) or which frame it hands. Which of several is taken first is the
model's order (log entry 4). -/
def Obligations.NothingDueMeansSettled : Prop :=
  (∀ s : State, Quiet s → settle s = s ∧ s.FollowersHeld ∧
    ∀ i : LpId,
      (s.inUse i = true → s.chans[i].state = .stopRequested → s.stopConfirmed i = false) ∧
      (s.inUse i = true → s.recalled i = false) ∧
      (s.nightWork = true → s.inUse i = true → s.chans[i].state = .running → 1 ≤ s.level i →
        s.handPresent i = false → s.isFollower i = true ∧ s.leaderIn i .stopped = false) ∧
      (s.leaderIn i .startPending = true →
        s.chans[i].state ≠ .stopPending ∧ s.chans[i].state ≠ .stopRequested ∧ s.chans[i].state ≠ .stopped) ∧
      (s.isFollower i = true → s.isProvider i = false → s.chans[i].state = .stopPending →
        s.chans[i].runOnDone = false) ∧
      (s.isProvider i = true → s.chans[i].state = .stopPending → s.chans[i].surplusHeld = true →
        (s.isFollower i = true → s.chans[i].runOnDone = true) → s.chans[i].entryQueued = true) ∧
      (s.inUse i = true → s.chans[i].state = .startPending → s.chans[i].cause = some .shortfall →
        s.ownShortfall i = true ∨ s.leaderIn i .startPending = true) ∧
      (s.isLeader i = true → s.chans[i].state = .startPending →
        (s.leadHeld i = true ↔ s.chans[i].leadT ≠ .off)) ∧
      (s.inUse i = true → s.chans[i].state = .startPending → s.ready i = true → s.chans[i].entryQueued = true) ∧
      (s.deciding = true → s.mode.plant = .wake → s.inUse i = true → s.chans[i].state ≠ .stopped) ∧
      (s.deciding = true → s.inUse i = true → s.ownShortInForce i = true → s.chans[i].state ≠ .stopped)) ∧
  (∀ s : State, Quiet s →
    (∀ v : SvcId, (s.svcs[v].timer ≠ .off ↔ s.shortOf v = true ∧ s.shortWatched = true) ∧
      (s.shortOf v = true → s.svcInUse v = true ∧ s.capacity v < s.required v) ∧
      s.svcs[v].inForce = (s.svcs[v].confirmed && s.nightWork)) ∧
    ∀ i : LpId, (s.provs[i].timer ≠ .off ↔ s.assessing = true ∧ s.surplusOf i = true) ∧
      (s.provs[i].reported = true → s.provs[i].established = true ∧ s.chans[i].state = .stopPending) ∧
      (s.isProvider i = true → s.provs[i].established = true → s.chans[i].state = .stopPending →
        s.provs[i].reported = true)) ∧
  (∀ s : State, Quiet s →
    (s.deciding = true → s.nightSignal = true → s.mode.plant = .night) ∧
    (s.deciding = true → s.nightSignal = false → s.mode.plant = .day ∨ s.mode.plant = .wake ∧ s.anyHeld = true) ∧
    s.mayHandIntent = false ∧
    (s.staggering = true → (∀ i : LpId, s.chans[i].state ≠ .starting) →
      ∀ q ∈ s.round.queue, q.entry.action = .start → s.round.committed q.serial = true)) ∧
  (∀ (s : State) (n : Nat), settle s = releaseAll (settleFor Config.cascadeBound s) ∧ settleFor 0 s = s ∧
    (Quiet s → settleFor n s = s ∧ releaseAll s = s)) ∧
  ∀ (s : State) (d : Due), due s = some d →
    let t := fire s d
    let without (i : LpId) := s.round.queue.filter fun q => q.entry.lp != i
    let withdrawn (i : LpId) (c : Chan) : State := (s.withRound { s.round with queue := without i }).withChans
      (s.chans.set i { c with entryQueued := false })
    let posted (i : LpId) (action : Action) (cause : Cause) : Prop := ∃ q front back,
      q = { serial := s.round.nextSerial, entry := {
        lp := i, action, cause, level := s.level i, provides := s.provided i
        capacity := if s.isProvider i then (s.block i).capacity.toNat else 0
        inrush := (s.block i).inrush.toNat, demands := (s.block i).demands } } ∧
      without i = front ++ back ∧
      (∀ x ∈ front, ¬(x.entry.level < s.level i ∨ x.entry.level = s.level i ∧ i < x.entry.lp)) ∧
      (∀ x, back.head? = some x → x.entry.level < s.level i ∨ x.entry.level = s.level i ∧ i < x.entry.lp) ∧
      t = (s.withRound { s.round with queue := front ++ q :: back, nextSerial := s.round.nextSerial + 1 }).withChans
        (s.chans.set i { s.chans[i] with entryQueued := true })
    (∀ n, settleFor (n + 1) s = settleFor n t) ∧
    match d with
    | .takeBack i => s.inUse i = true ∧ s.recalled i = true ∧
      let u := enter i .running s
      t = (u.withChans (u.chans.set i { u.chans[i] with recalls := min 255 (s.chans[i].recalls + 1) })).withFaults
        { s.faults with flags := s.faults.flags ||| EventClass.recalled.bit }
    | .confirm i => s.inUse i = true ∧ s.chans[i].state = .stopRequested ∧ s.stopConfirmed i = true ∧
      t = enter i (if s.unitMode i = .rotation then .coasting else .stopped) s
    | .release i st => s.leaderReleased i = true ∧ t = enter i st s ∧
      (st = .starting ∧ (s.chans[i].state = .stopped ∨ s.chans[i].state = .startPending) ∨
        st = .running ∧ (s.chans[i].state = .stopRequested ∨ s.chans[i].state = .coasting ∨
          s.chans[i].state = .stopPending))
    | .call i cause => s.chans[i].state = .stopped ∧ t = enterFor cause i .startPending s ∧
      ∃ l, s.leader i = some l ∧ s.chans[l].state = .startPending ∧ cause = s.chans[l].cause
    | .callOut i => s.leaderIn i .startPending = true ∧ t = enter i .running s ∧
      (s.chans[i].state = .stopPending ∨ s.chans[i].state = .stopRequested)
    | .goIdle i st => s.nightWork = true ∧ s.inUse i = true ∧ s.chans[i].state = .running ∧ 1 ≤ s.level i ∧
      s.handPresent i = false ∧ t = enter i st s ∧
      (st = .idleWatch ∧ s.isFollower i = false ∨
        st = .stopPending ∧ s.isFollower i = true ∧ s.leaderIn i .stopped = true)
    | .runOnStop i => s.isFollower i = true ∧ s.isProvider i = false ∧ s.chans[i].state = .stopPending ∧
      s.chans[i].runOnDone = true ∧ t = enter i .stopRequested s
    | .shortBegins v => s.shortOf v = true ∧ s.shortWatched = true ∧ s.svcs[v].timer = .off ∧
      t = s.withSvcs (s.svcs.set v { s.svcs[v] with timer := .running 0 })
    | .shortCeases v => ¬(s.shortOf v = true ∧ s.shortWatched = true) ∧
      t = s.withSvcs (s.svcs.set v { timer := .off, confirmed := false, inForce := false })
    | .shortForce v on => s.shortOf v = true ∧ s.shortWatched = true ∧ s.svcs[v].inForce ≠ on ∧
      on = (s.svcs[v].confirmed && s.nightWork) ∧
      let answers (i : LpId) : Prop := on = true ∧ s.provided i = some v ∧ s.chans[i].state = .stopped
      t.svcs = s.svcs.set v { s.svcs[v] with inForce := on } ∧
      t.round = { s.round with queue := s.round.queue.filter fun q => ¬answers q.entry.lp } ∧
      t = ((((s.withSvcs t.svcs).withRound t.round).withChans t.chans).withUnits t.units).withProvs t.provs ∧
      ∀ i : LpId, let u := enterFor (some .shortfall) i .startPending s
        (answers i → t.chans[i] = u.chans[i] ∧ t.units[i] = u.units[i] ∧ t.provs[i] = u.provs[i]) ∧
        (¬answers i → t.chans[i] = s.chans[i] ∧ t.units[i] = s.units[i] ∧ t.provs[i] = s.provs[i])
    | .surplusBegins i => s.assessing = true ∧ s.surplusOf i = true ∧ s.provs[i].timer = .off ∧
      t = s.withProvs (s.provs.set i { s.provs[i] with timer := .running 0 })
    | .surplusCeases i => ¬(s.assessing = true ∧ s.surplusOf i = true) ∧
      t = s.withProvs (s.provs.set i { s.provs[i] with timer := .off, established := false })
    | .surplusReport i => s.isProvider i = true ∧ s.provs[i].established = true ∧ s.provs[i].reported = false ∧
      s.chans[i].state = .stopPending ∧
      t = (s.withProvs (s.provs.set i { s.provs[i] with reported := true })).withChans
        (s.chans.set i { s.chans[i] with surplusHeld := true })
    | .surplusEnds i => s.provs[i].reported = true ∧
      (s.provs[i].established = false ∨ s.chans[i].state ≠ .stopPending) ∧
      let ended := s.provs.set i { s.provs[i] with reported := false }
      (s.chans[i].state ≠ .stopPending → t = s.withProvs ended) ∧
      (s.chans[i].state = .stopPending →
        t = (withdrawn i { s.chans[i] with surplusHeld := false }).withProvs ended)
    | .callOff i => s.inUse i = true ∧ s.chans[i].state = .startPending ∧ s.chans[i].cause = some .shortfall ∧
      s.ownShortfall i = false ∧ s.leaderIn i .startPending = false ∧ t = enter i .stopped s
    | .bid i cause => s.deciding = true ∧ s.inUse i = true ∧ s.chans[i].state = .stopped ∧
      t = enterFor (some cause) i .startPending s ∧
      (cause = .wake ∧ s.mode.plant = .wake ∨
        cause = .shortfall ∧ s.mode.plant ≠ .wake ∧ s.ownShortInForce i = true)
    | .leadBegins i => s.isLeader i = true ∧ s.chans[i].state = .startPending ∧ s.leadHeld i = true ∧
      s.chans[i].leadT = .off ∧
      t = s.withChans (s.chans.set i { s.chans[i] with
        leadT := if (s.block i).leadTime = 0 then .expired
          else .running ((s.block i).leadTime.toNat * 1000000) })
    | .leadLost i => s.isLeader i = true ∧ s.chans[i].state = .startPending ∧ s.leadHeld i = false ∧
      s.chans[i].leadT ≠ .off ∧ t = withdrawn i { s.chans[i] with leadT := .off }
    | .postStop i => s.isProvider i = true ∧ s.chans[i].state = .stopPending ∧ s.chans[i].surplusHeld = true ∧
      (s.isFollower i = true → s.chans[i].runOnDone = true) ∧ s.chans[i].entryQueued = false ∧
      posted i .stop .night
    | .postStart i => s.inUse i = true ∧ s.chans[i].state = .startPending ∧ s.ready i = true ∧
      s.chans[i].entryQueued = false ∧
      (s.chans[i].cause = some .wake → posted i .start .wake) ∧
      (s.chans[i].cause = some .shortfall → posted i .start .shortfall)
    | .enters m => s.deciding = true ∧ t = enterMode m s ∧
      (m = .night ∧ s.nightSignal = true ∧ s.mode.plant ≠ .night ∨
        m = .wake ∧ s.nightSignal = false ∧ s.mode.plant = .night ∨
        m = .day ∧ s.nightSignal = false ∧ s.mode.plant = .wake ∧ s.anyHeld = false)
    | .stagger q => s.staggering = true ∧ (∀ i : LpId, s.chans[i].state ≠ .starting) ∧
      (∃ front back, s.round.queue = front ++ q :: back ∧ q.entry.action = .start ∧
        s.round.committed q.serial = false ∧
        ∀ x ∈ front, x.entry.action = .start → s.round.committed x.serial = true) ∧
      (s.chans[q.entry.lp].state = .startPending → t = enter q.entry.lp .starting s) ∧
      (s.chans[q.entry.lp].state ≠ .startPending → t = withdrawn q.entry.lp s.chans[q.entry.lp])
    | .handIntent => s.isActive = true ∧ s.mode.isolated = false ∧ s.round.queue ≠ [] ∧
      (s.round.phase = .closed ∨ s.round.phase = .opened ∧ s.round.join = false) ∧ s.round.outstanding = none ∧
      ∃ f : OutFrame, f.origin = .intent ∧
        f.frame = { kind := 3, source := s.ownAddress, destination := 255
                    seq := BitVec.ofNat 8 (min 255 s.round.heard)
                    payload := intentPayload ((s.round.queue.take 4).map QueueEntry.entry) } ∧
        t = (s.withLink { s.link with waitIntent := some f }.takeNext).withRound
          { s.round with outstanding := some (s.round.queue.take 4) }

/-- Each channel's answer to an entry into NIGHT, WAKE and DAY, before any consequence at another channel; the round
is changed in its queue alone, where an entry whose channel moves is withdrawn and one of a start that goes on takes
cause WAKE in its place; and nothing else of the station changes. -/
def Obligations.PlantModeEntries : Prop :=
  (∀ (s : State) (m : PlantMode), let t := enterMode m s
    t = (((((s.withMode { s.mode with plant := m }).withRound { s.round with queue := t.round.queue }).withChans
      t.chans).withUnits t.units).withProvs t.provs) ∧
    ∀ i : LpId, s.inUse i = false →
      t.chans[i] = s.chans[i] ∧ t.units[i] = s.units[i] ∧ t.provs[i] = s.provs[i]) ∧
  (∀ s : State, let t := enterMode .night s
    let calledOff (i : LpId) : Prop :=
      s.inUse i = true ∧ s.chans[i].state = .startPending ∧ s.chans[i].cause = some .wake
    t.round.queue = s.round.queue.filter (fun q => ¬calledOff q.entry.lp) ∧
    ∀ i : LpId, s.inUse i = true →
      let c := { s.chans[i] with retry := (s.block i).retries.toNat, autoOff := false }
      let u := enter i .stopped (s.setChan i c)
      (calledOff i → t.chans[i] = u.chans[i] ∧ t.units[i] = u.units[i] ∧ t.provs[i] = u.provs[i]) ∧
      (¬calledOff i → t.chans[i] = c ∧ t.units[i] = s.units[i] ∧ t.provs[i] = s.provs[i])) ∧
  (∀ s : State, let t := enterMode .wake s
    let moves (i : LpId) : Prop := s.inUse i = true ∧ (s.chans[i].state = .stopped ∨
      s.chans[i].state = .idleWatch ∨ s.chans[i].state = .stopPending ∨ s.chans[i].state = .stopRequested)
    t.round.queue = (s.round.queue.filter fun q => ¬moves q.entry.lp).map (fun q =>
      if s.inUse q.entry.lp = true ∧ s.chans[q.entry.lp].state = .startPending then
        { q with entry := { q.entry with cause := .wake } }
      else q) ∧
    ∀ i : LpId, s.inUse i = true →
      let u := if s.chans[i].state = .stopped then enterFor (some .wake) i .startPending s else enter i .running s
      (moves i → t.chans[i] = u.chans[i] ∧ t.units[i] = u.units[i] ∧ t.provs[i] = u.provs[i]) ∧
      (¬moves i → t.units[i] = s.units[i] ∧ t.provs[i] = s.provs[i] ∧ t.chans[i] =
        if s.chans[i].state = .startPending then { s.chans[i] with cause := some .wake } else s.chans[i])) ∧
  (∀ s : State, let t := enterMode .day s
    t.round.queue = s.round.queue.filter (fun q =>
      ¬(s.inUse q.entry.lp = true ∧ s.chans[q.entry.lp].state = .excluded)) ∧
    ∀ i : LpId, s.inUse i = true →
      let u := enter i .running s
      (s.chans[i].state = .excluded →
        t.chans[i] = u.chans[i] ∧ t.units[i] = u.units[i] ∧ t.provs[i] = u.provs[i]) ∧
      (s.chans[i].state ≠ .excluded →
        t.chans[i] = s.chans[i] ∧ t.units[i] = s.units[i] ∧ t.provs[i] = s.provs[i]))

/-! ### Channels: the machine's lines -/

/-- RUNn, GRANTn and HANDn rise or drop: the level; in STARTING the start and settle timers; HANDn asserted takes an
in-use load point to MANUAL from any state, and released to LOCKOUT where a lockout kind stands and to RUNNING where
none does. A command that brings the level the line has is none (log entry 8). HANDn released outside MANUAL, where a
re-read has left the load point (log entry 19), lets the rules of its state go on; that a load point which was put in
EXCLUDED meanwhile stays there is log entry 38. -/
def Obligations.MachineLineEdges : Prop :=
  (∀ (i : LpId) (s : State), s.loaded = true →
    (s.runPresent i = false → ∃ u, exec (.runRise i) s = .next (settle u) ∧
      u = (s.withLines (s.lines.set i { s.lines[i] with run := some true })).withChans u.chans ∧
      (∀ j, j ≠ i → u.chans[j] = s.chans[j]) ∧
      u.chans[i] = (if s.chans[i].state = .starting then
        { s.chans[i] with startT := .off, settleT := .running ((s.block i).startSettle.toNat * 1000000) }
        else s.chans[i])) ∧
    (s.runPresent i = true → ∃ u, exec (.runDrop i) s = .next (settle u) ∧
      u = (s.withLines (s.lines.set i { s.lines[i] with run := some false })).withChans u.chans ∧
      (∀ j, j ≠ i → u.chans[j] = s.chans[j]) ∧
      u.chans[i] = (if s.chans[i].state = .starting then
        { s.chans[i] with settleT := .off, startT := .running ((s.block i).startTimeout.toNat * 1000000) }
        else s.chans[i])) ∧
    (s.runPresent i = true → exec (.runRise i) s = .next s) ∧
    (s.runPresent i = false → exec (.runDrop i) s = .next s)) ∧
  (∀ (i : LpId) (s : State), s.loaded = true →
    (s.grantPresent i = false →
      exec (.grantRise i) s = .next (settle (s.setLines i { s.lines[i] with grant := some true }))) ∧
    (s.grantPresent i = true →
      exec (.grantDrop i) s = .next (settle (s.setLines i { s.lines[i] with grant := some false }))) ∧
    (s.grantPresent i = true → exec (.grantRise i) s = .next s) ∧
    (s.grantPresent i = false → exec (.grantDrop i) s = .next s)) ∧
  (∀ (i : LpId) (s : State), s.loaded = true →
    (s.handPresent i = false → s.inUse i = true →
      exec (.handAsserted i) s =
        .next (settle (enter i .manual (s.setLines i { s.lines[i] with hand := some true })))) ∧
    (s.handPresent i = false → s.inUse i = false →
      exec (.handAsserted i) s = .next (s.setLines i { s.lines[i] with hand := some true })) ∧
    (s.handPresent i = true → s.chans[i].state = .manual →
      exec (.handReleased i) s =
        .next (settle (enter i (if s.chans[i].lockout = .none then .running else .lockout)
          (s.setLines i { s.lines[i] with hand := some false })))) ∧
    (s.handPresent i = true → s.chans[i].state ≠ .manual →
      exec (.handReleased i) s = .next (settle (s.setLines i { s.lines[i] with hand := some false }))) ∧
    (s.handPresent i = true → exec (.handAsserted i) s = .next s) ∧
    (s.handPresent i = false → exec (.handReleased i) s = .next s))

/-- In a state with nothing due, the machine's answer is taken first of all, and the other consequences after it, in
the model's order (log entry 4) and up to its bound (log entry 2). A rise of GRANTn under HANDSHAKE, a drop of RUNn
under DIRECT, confirms a requested stop; a drop of GRANTn in STOPPED, a rise of RUNn in COASTING, STOPPED or
START_PENDING under DIRECT, is a recall. -/
def Obligations.MachineAnswersTheStop : Prop :=
  (∀ (i : LpId) (s : State), s.loaded = true → Quiet s → s.inUse i = true → s.chans[i].state = .stopRequested →
    ∃ u : State, ((s.block i).control = 0 → s.grantPresent i = false →
        exec (.grantRise i) s = .next (releaseAll (settleFor (Config.cascadeBound - 1)
          (u.withLines (s.lines.set i { s.lines[i] with grant := some true }))))) ∧
      ((s.block i).control ≠ 0 → s.runPresent i = true →
        exec (.runDrop i) s = .next (releaseAll (settleFor (Config.cascadeBound - 1)
          (u.withLines (s.lines.set i { s.lines[i] with run := some false }))))) ∧
      u.chans[i].state = (if s.unitMode i = .rotation then .coasting else .stopped) ∧
      u = ((((s.withRound u.round).withChans u.chans).withUnits u.units).withProvs u.provs) ∧
      (∀ j, j ≠ i → u.chans[j] = s.chans[j] ∧ u.units[j] = s.units[j]) ∧
      u.chans[i].stopT = .off ∧ u.chans[i].retry = s.chans[i].retry ∧ u.stopLine i = true) ∧
  (∀ (i : LpId) (s : State), s.loaded = true → Quiet s → s.inUse i = true →
    ∃ u : State, ((s.block i).control = 0 → s.chans[i].state = .stopped → s.grantPresent i = true →
        exec (.grantDrop i) s = .next (releaseAll (settleFor (Config.cascadeBound - 1)
          (u.withLines (s.lines.set i { s.lines[i] with grant := some false }))))) ∧
      ((s.block i).control ≠ 0 → s.chans[i].state = .coasting ∨ s.chans[i].state = .stopped ∨
          s.chans[i].state = .startPending → s.runPresent i = false →
        exec (.runRise i) s = .next (releaseAll (settleFor (Config.cascadeBound - 1)
          (u.withLines (s.lines.set i { s.lines[i] with run := some true }))))) ∧
      u.chans[i].state = .running ∧ u.stopLine i = false ∧ u.chans[i].cause = none ∧
      u.chans[i].entryQueued = false ∧ u.chans[i].recalls = min 255 (s.chans[i].recalls + 1) ∧
      u.chans[i].retry = s.chans[i].retry ∧
      u = (((((s.withRound u.round).withChans u.chans).withUnits u.units).withProvs u.provs).withFaults
        { s.faults with flags := s.faults.flags ||| EventClass.recalled.bit }) ∧
      ∀ j, j ≠ i → u.chans[j] = s.chans[j] ∧ u.units[j] = s.units[j])

/-- The first level of an ACT filter is a level, not an edge: a LOAD_LEVEL unit takes its reading, and, where that is
loaded, holds an armed idle timer at its reload value; nothing is counted and nothing reported. The first level of a
RUN, GRANT, HAND or STOPRB filter is taken as an edge from the initial reading, absent or released; a first level
equal to the reading is no edge. -/
def Obligations.FirstLevelsAreTaken : Prop :=
  (∀ (i : LpId) (high : Bool) (s : State), s.loaded = true → s.lines[i].act = none →
    let reading := if (s.block i).loadPolarity = 1 then !high else high
    ∃ t, exec (.actFirstLevel i high) s = .next t ∧ t = (s.withLines t.lines).withUnits t.units ∧
      t.lines[i] = { s.lines[i] with act := some high } ∧
      t.units[i] = { s.units[i] with
        loaded := if s.unitMode i = .loadLevel then some reading else s.units[i].loaded
        idle := if s.unitMode i = .loadLevel ∧ s.units[i].armed = true ∧ reading = true then s.reload i
          else s.units[i].idle
        expiryReported := s.units[i].expiryReported &&
          !decide (s.unitMode i = .loadLevel ∧ s.units[i].armed = true ∧ reading = true) } ∧
      ∀ j, j ≠ i → t.lines[j] = s.lines[j] ∧ t.units[j] = s.units[j]) ∧
  (∀ (i : LpId) (s : State), s.loaded = true →
    (s.lines[i].run = none →
      exec (.lineFirstLevel .run i true) s = exec (.runRise i) s ∧
      exec (.lineFirstLevel .run i false) s = .next (s.setLines i { s.lines[i] with run := some false })) ∧
    (s.lines[i].grant = none →
      exec (.lineFirstLevel .grant i true) s = exec (.grantRise i) s ∧
      exec (.lineFirstLevel .grant i false) s = .next (s.setLines i { s.lines[i] with grant := some false })) ∧
    (s.lines[i].hand = none →
      exec (.lineFirstLevel .hand i true) s = exec (.handAsserted i) s ∧
      exec (.lineFirstLevel .hand i false) s = .next (s.setLines i { s.lines[i] with hand := some false })) ∧
    (s.lines[i].stoprb = none → ∀ b, exec (.lineFirstLevel .stoprb i b) s = exec (.stoprbEdge i b) s))

/-- A change of STOPRBn starts the read-back watch at 200 ms when it disagrees with the commanded level of STOPn, and
cancels it when it agrees; the watch does not run under a hard lockout. When it expires OUTPUT_STUCK is reported as
locking, both flags are set, the lockout is hard, and any load point but one in MANUAL enters LOCKOUT. -/
def Obligations.ReadBackWatch : Prop :=
  (∀ (i : LpId) (level : Bool) (s : State), s.loaded = true → s.lines[i].stoprb ≠ some level → s.inUse i = true →
    ∃ t, exec (.stoprbEdge i level) s = .next t ∧ t = (s.withLines t.lines).withChans t.chans ∧
      t.lines = s.lines.set i { s.lines[i] with stoprb := some level } ∧
      (∀ j, j ≠ i → t.chans[j] = s.chans[j]) ∧ t.chans[i] = { s.chans[i] with watch := t.chans[i].watch } ∧
      (s.chans[i].lockout = .hard → t.chans[i].watch = .off) ∧
      (level = s.stopLine i → t.chans[i].watch = .off) ∧
      (s.chans[i].lockout ≠ .hard → level ≠ s.stopLine i → s.chans[i].watch.isRunning = false →
        t.chans[i].watch = .running 200000)) ∧
  (∀ (i : LpId) (s : State), s.chans[i].watch.isRunning = true →
    ∃ u, (s.chans[i].state = .manual → exec (.readBackWatchExpiry i) s = .next u) ∧
      (s.chans[i].state ≠ .manual → exec (.readBackWatchExpiry i) s = .next (settle (enter i .lockout u))) ∧
      u = (s.withFaults u.faults).withChans u.chans ∧ (∀ j, j ≠ i → u.chans[j] = s.chans[j]) ∧
      u.chans[i] = { s.chans[i] with lockout := .hard, watch := .off } ∧
      u.faults.lps = s.faults.lps.set i
        (s.faults.lps[i].report .outputStuck s.faults.uptime (.lp s.chans[i].state) true) ∧
      u.faults.station = s.faults.station ∧ u.faults.uptime = s.faults.uptime ∧
      u.faults.flags = s.faults.flags ||| 3)

/-! ### Channels: timers and faults -/

/-- The stop timer expires: a refused attempt under HANDSHAKE, by the count it leaves and report_on_exhaust, and
STOP_NOT_SEEN under DIRECT. A count of 0 is taken as exhausted (log entry 20). -/
def Obligations.StopTimerExpires : Prop :=
  ∀ (i : LpId) (s : State), s.chans[i].state = .stopRequested → s.chans[i].stopT.isRunning = true →
    ((s.block i).control ≠ 0 → exec (.stopTimerExpiry i) s = .next (settle (lockSoft i .stopNotSeen s))) ∧
    ((s.block i).control = 0 → 1 < s.chans[i].retry →
      exec (.stopTimerExpiry i) s =
        .next (settle (enter i .running (s.setChan i { s.chans[i] with retry := s.chans[i].retry - 1 })))) ∧
    ((s.block i).control = 0 → s.chans[i].retry ≤ 1 → (s.block i).reportOnExhaust = 1 →
      exec (.stopTimerExpiry i) s =
        .next (settle (lockSoft i .grantRefused (s.setChan i { s.chans[i] with retry := 0 })))) ∧
    ((s.block i).control = 0 → s.chans[i].retry ≤ 1 → (s.block i).reportOnExhaust ≠ 1 →
      exec (.stopTimerExpiry i) s = .next (settle ((enter i .excluded
        (s.setChan i { s.chans[i] with retry := 0, autoOff := true })).raise .exhausted)))

/-- A fault that locks: recorded with the state in which it was found, LP_FAULT set, and the load point in LOCKOUT
with kind SOFT and its stop request released; START_TIMER_EXPIRY reports START_NOT_SEEN so. The coast limit runs out:
COAST_OVERRUN is reported, not locking, and coasting continues. The settle, run-on and lead timers expire. That a
timer which has expired is off, and the lead timer is expired, so that it does not expire again, is log entry 24. -/
def Obligations.ChannelTimersExpire : Prop :=
  (∀ (i : LpId) (s : State),
    (∀ code, let t := lockSoft i code s
      t.chans[i].state = .lockout ∧ t.chans[i].lockout = .soft ∧ t.stopLine i = false ∧
      t.faults.lps = s.faults.lps.set i
        (s.faults.lps[i].report code s.faults.uptime (.lp s.chans[i].state) true) ∧
      t.faults.flags = s.faults.flags ||| EventClass.lpFault.bit ∧ t.faults.station = s.faults.station ∧
      ∀ j, j ≠ i → t.chans[j] = s.chans[j]) ∧
    (s.chans[i].state = .starting → s.chans[i].startT.isRunning = true →
      exec (.startTimerExpiry i) s = .next (settle (lockSoft i .startNotSeen s)))) ∧
  (∀ (i : LpId) (s : State), s.chans[i].state = .coasting → s.chans[i].coastT.isRunning = true →
    ∃ t, exec (.coastTimerExpiry i) s = .next t ∧ t = (s.withFaults t.faults).withChans t.chans ∧
      (∀ j, j ≠ i → t.chans[j] = s.chans[j]) ∧
      t.chans[i] = { s.chans[i] with coastT := .off, overrun := true } ∧
      t.faults.lps = s.faults.lps.set i
        (s.faults.lps[i].report .coastOverrun s.faults.uptime (.lp .coasting) false) ∧
      t.faults.flags = s.faults.flags ||| EventClass.lpFault.bit ∧
      exec (.coastTimerExpiry i) t = .next t) ∧
  (∀ (i : LpId) (s : State),
    (s.chans[i].state = .starting → s.chans[i].settleT.isRunning = true →
      exec (.settleTimerExpiry i) s = .next (settle (enter i .running s))) ∧
    (s.chans[i].state = .stopPending → s.chans[i].runOnT.isRunning = true →
      exec (.runOnExpiry i) s =
        .next (settle (s.setChan i { s.chans[i] with runOnT := .off, runOnDone := true }))) ∧
    (s.chans[i].state = .startPending → s.chans[i].leadT.isRunning = true →
      exec (.leadTimerExpiry i) s = .next (settle (s.setChan i { s.chans[i] with leadT := .expired }))))

/-- The surplus and shortfall timers expire: surplus established, shortfall confirmed. A timer that does not run, of
the channels, the balance, the mode controller, the link, the peer table or the round, does not expire: the command of
its expiry changes nothing. -/
def Obligations.BalanceTimersExpire : Prop :=
  (∀ (i : LpId) (v : SvcId) (s : State),
    (s.provs[i].timer.isRunning = true →
      exec (.surplusTimerExpiry i) s =
        .next (settle (s.setProv i { s.provs[i] with timer := .expired, established := true }))) ∧
    (s.svcs[v].timer.isRunning = true →
      exec (.shortfallTimerExpiry v) s =
        .next (settle (s.setSvc v { s.svcs[v] with timer := .expired, confirmed := true })))) ∧
  (∀ (i : LpId) (v : SvcId) (s : State),
    (s.chans[i].watch = .off → exec (.readBackWatchExpiry i) s = .next s) ∧
    (s.chans[i].stopT = .off → exec (.stopTimerExpiry i) s = .next s) ∧
    (s.chans[i].coastT = .off → exec (.coastTimerExpiry i) s = .next s) ∧
    (s.chans[i].startT = .off → exec (.startTimerExpiry i) s = .next s) ∧
    (s.chans[i].settleT = .off → exec (.settleTimerExpiry i) s = .next s) ∧
    (s.chans[i].runOnT = .off → exec (.runOnExpiry i) s = .next s) ∧
    (s.chans[i].leadT = .off → exec (.leadTimerExpiry i) s = .next s) ∧
    (s.provs[i].timer = .off → exec (.surplusTimerExpiry i) s = .next s) ∧
    (s.svcs[v].timer = .off → exec (.shortfallTimerExpiry v) s = .next s) ∧
    (s.mode.listenIn = .off → exec .listenInTimerExpiry s = .next s) ∧
    (s.mode.beaconT = .off → exec .beaconTimerExpiry s = .next s) ∧
    (s.link.silence = .off → exec .silenceTimerExpiry s = .next s)) ∧
  (∀ (a : Byte) (s : State),
    ((∀ e ∈ s.peers.entries, e.address = a → e.age = .off) → exec (.ageTimerExpiry a) s = .next s) ∧
    ((∀ e ∈ s.peers.entries, e.address = a → e.answerHold = .off) → exec (.answerHoldExpiry a) s = .next s) ∧
    (s.peers.overflow = .off → exec .overflowTimerExpiry s = .next s) ∧
    (s.peers.sharedHold = .off → exec .sharedAnswerHoldExpiry s = .next s) ∧
    (s.round.phase ≠ .opened → exec .roundClose s = .next s) ∧
    (s.round.phase ≠ .guarding → exec .guardExpiry s = .next s) ∧
    ((∀ f x, s.link.inProgress = some f → f.phase ≠ .backingOff x) → exec .backoffExpiry s = .next s))

/-! ### The link -/

/-- With no frame in progress the next is taken in the order of R72: a page of the announcement being sent, then
INTENT, REPLY, announcement, BEACON. -/
def Obligations.FramesAreTakenInGroupOrder : Prop :=
  ∀ l : Link, l.inProgress = none →
    (∀ p ps, l.pagesLeft = p :: ps →
      l.takeNext.inProgress.map Sending.out = some p ∧ l.takeNext.pagesLeft = ps) ∧
    (l.pagesLeft = [] → ∀ f, l.waitIntent = some f →
      l.takeNext.inProgress.map Sending.out = some f ∧ l.takeNext.waitIntent = none) ∧
    (l.pagesLeft = [] → l.waitIntent = none → ∀ f, l.waitReply = some f →
      l.takeNext.inProgress.map Sending.out = some f ∧ l.takeNext.waitReply = none) ∧
    (l.pagesLeft = [] → l.waitIntent = none → l.waitReply = none → ∀ p ps, l.waitPages = p :: ps →
      l.takeNext.inProgress.map Sending.out = some p ∧ l.takeNext.waitPages = [] ∧ l.takeNext.pagesLeft = ps) ∧
    (l.pagesLeft = [] → l.waitIntent = none → l.waitReply = none → l.waitPages = [] →
      ∀ f, l.waitBeacon = some f →
      l.takeNext.inProgress.map Sending.out = some f ∧ l.takeNext.waitBeacon = none) ∧
    (∀ t, l.takeNext.inProgress = some t → t.attempts = 0 ∧
      t.phase = if l.lineIdle then .sending else .waiting)

/-- The attempt of a frame that waits starts on an idle line and on no other, so that it defers to a frame that has
begun until the line is idle again; a backoff that has expired lets the next attempt start at once on an idle line.
Another sender's first start bit takes the line from idle, and its frame is collected, but not while the loader reads
(log entries 6 and 36). A lost attempt below the eighth: counted, the attempt count raised, the frame on the line
collected from its first start bit, and a backoff drawn below 2^k slots from the draw the command brings (log entry
14), which waits for the end of the winning frame or, against the own driver, starts at the moment of the loss. A
first start bit that never reached the line leaves it idle and begins no frame, so that a backoff of no slots starts
the next attempt at once; any other loss leaves it not idle. The line becomes idle: the receiver may begin a frame
again, and a backoff that waited for an idle line starts. -/
def Obligations.AttemptsStartAndBackOff : Prop :=
  (∀ (s : State) (f : Sending), s.link.inProgress = some f →
    (f.phase = .waiting → s.link.lineIdle = true → exec (.attemptStart .own) s =
      .next (s.withLink { s.link with lineIdle := false, inProgress := some { f with phase := .sending } })) ∧
    (f.phase ≠ .waiting ∨ s.link.lineIdle = false → exec (.attemptStart .own) s = .next s) ∧
    (∀ us, f.phase = .backingOff us → exec .backoffExpiry s =
      .next (s.withLink { s.link with
        lineIdle := false,
        inProgress := some { f with phase := if s.link.lineIdle then .sending else .waiting } }))) ∧
  (∀ s : State, s.link.inProgress = none → exec (.attemptStart .own) s = .next s) ∧
  (∀ s : State, exec (.attemptStart .other) s = .next (s.withLink { s.link with
    lineIdle := false
    collecting := s.receiving
    awaitIdle := s.link.awaitIdle || !(s.mode.station.isSome && s.loader.phase == .done) })) ∧
  (∀ (s : State) (f : Sending) (loss : Loss) (draw : BitVec 5), s.link.inProgress = some f →
    f.phase = .sending → f.attempts < 7 →
    ∃ t slots, exec (.lostContention loss draw) s = .next t ∧ slots < 2 ^ min (f.attempts + 1) 5 ∧
      slots = draw.toNat % 2 ^ min (f.attempts + 1) 5 ∧
      t = s.withLink { s.link with
        lineIdle := decide (loss = Loss.startUndriven ∧ slots ≠ 0),
        collecting := s.link.collecting || decide (loss ≠ Loss.startUndriven),
        counters := { s.link.counters with lostContentions := min 65535 (s.link.counters.lostContentions + 1) },
        inProgress := some { f with
          attempts := f.attempts + 1,
          phase := if loss = .toSender then .lostAwaitingEnd slots
            else if slots ≠ 0 then .backingOff (.running (slots * 1024))
            else if loss = .startUndriven then .sending else .waiting } }) ∧
  (∀ s : State, ∃ t, exec .lineIdle s = .next t ∧ t = s.withLink t.link ∧
    (s.link.inProgress = none →
      t.link = { s.link with lineIdle := true, collecting := false, awaitIdle := false }) ∧
    (∀ f, s.link.inProgress = some f → f.phase = .sending →
      t.link = { s.link with lineIdle := false, collecting := false, awaitIdle := false }) ∧
    (∀ f n, s.link.inProgress = some f → f.phase = .lostAwaitingIdle n →
      t.link = { s.link with
        lineIdle := decide (n ≠ 0), collecting := false, awaitIdle := false,
        inProgress := some { f with
          phase := if n = 0 then .sending else .backingOff (.running (n * 1024)) } }) ∧
    (∀ f, s.link.inProgress = some f → f.phase ≠ .sending → (∀ n, f.phase ≠ .lostAwaitingIdle n) →
      t.link = { s.link with lineIdle := true, collecting := false, awaitIdle := false }))

/-- The eighth lost attempt abandons the frame: both counters and the abandon run rise, the frame leaves progress with
the pages behind it, the block that handed it hears of it (a beacon that calls for an announcement hands it, an INTENT
frame's entries are no longer outstanding), a run of 3 isolates a station that assesses isolation, and the next frame
is taken. The line is idle then only where the frame's first start bit never reached it, and the frame on it is
collected otherwise (log entry 14). That the block hears of its frame before the isolation recalls an INTENT frame is
log entry 41, and that the recall leaves the receiver's marks as they stand is log entry 47. -/
def Obligations.EighthLossAbandons : Prop :=
  ∀ (s : State) (f : Sending) (loss : Loss) (draw : BitVec 5), s.link.inProgress = some f →
    f.phase = .sending → f.attempts = 7 →
    let announces := f.out.origin = .beacon true ∧ s.beaconing = true ∧ s.link.waitPages = []
    let isolates := s.beaconing = true ∧ s.mode.isolated = false ∧ 2 ≤ s.link.abandonRun
    let left := { s.link with
      lineIdle := decide (loss = Loss.startUndriven)
      collecting := s.link.collecting || decide (loss ≠ Loss.startUndriven)
      inProgress := none,
      pagesLeft := (match f.out.origin with
        | .page _ => []
        | _ => s.link.pagesLeft),
      abandonRun := s.link.abandonRun + 1,
      counters := { s.link.counters with
        lostContentions := min 65535 (s.link.counters.lostContentions + 1),
        abandoned := min 65535 (s.link.counters.abandoned + 1) } }
    let told := if announces then { left with waitPages := s.announcement }.takeNext else left
    let alone := if isolates then
        { told with
          latch := true, heard := false, waitIntent := none,
          inProgress := told.inProgress.filter fun g => g.out.origin ≠ .intent }
      else told
    ∃ u, exec (.lostContention loss draw) s = .next (settle u) ∧ u.link = alone.takeNext ∧
      u.round = { s.round with
        outstanding := if f.out.origin = .intent ∨ isolates then none else s.round.outstanding } ∧
      u.mode = { s.mode with
        isolated := s.mode.isolated || decide isolates
        toggle := if announces then !s.mode.toggle else s.mode.toggle } ∧
      u.faults = { s.faults with
        flags := if isolates then s.faults.flags ||| EventClass.isolated.bit else s.faults.flags } ∧
      u = (((s.withLink u.link).withRound u.round).withMode u.mode).withFaults u.faults

/-- A completed frame: it leaves progress, the abandon run is 0, a station that has heard a peer leaves ISOLATED with
its heard mark cleared, a beacon that calls for an announcement hands it, the station's own INTENT frame is taken into
the round that is CLOSED or OPEN, as far as the list has room, or misses it in GUARD; and the next frame is taken.
That the pages of the announcement are handed before the link takes that frame is log entry 44. -/
def Obligations.CompletedFrames : Prop :=
  ∀ (s : State) (f : Sending), s.link.inProgress = some f → f.phase = .sending →
    let announces := f.out.origin = .beacon true ∧ s.beaconing = true ∧ s.link.waitPages = []
    let misses := f.out.origin = .intent ∧ s.round.outstanding.isSome = true ∧ s.round.phase = .guarding
    let left := { s.link with
      inProgress := none, abandonRun := 0, lineIdle := false, heard := s.link.heard && !s.mode.isolated,
      waitPages := if announces then s.announcement else s.link.waitPages,
      counters := { s.link.counters with
        missedRounds := if misses then min 65535 (s.link.counters.missedRounds + 1)
          else s.link.counters.missedRounds } }
    ∃ u, exec .frameCompleted s = .next (settle u) ∧ u.link = left.takeNext ∧
      u = (((s.withLink u.link).withRound u.round).withMode { s.mode with
        isolated := s.mode.isolated && !s.link.heard
        toggle := if announces then !s.mode.toggle else s.mode.toggle }) ∧
      (f.out.origin ≠ .intent ∨ s.round.outstanding = none → u.round = s.round) ∧
      ∀ qs, f.out.origin = .intent → s.round.outstanding = some qs →
        (s.round.phase = .guarding → u.round = { s.round with outstanding := none }) ∧
        (s.round.phase ≠ .guarding → s.round.refused ≤ 255 → u.round = { s.round with
          outstanding := none
          phase := .opened
          window := if s.round.phase = .closed then .running (s.planW * 1000) else s.round.window
          join := true
          heard := min 255 (s.round.heard + qs.length)
          list := s.round.list ++ (qs.take (24 - s.round.list.length)).map fun q =>
            { station := s.ownAddress, entry := q.entry, own := some q.serial }
          refused := min 255 (s.round.refused + (qs.length - (24 - s.round.list.length))) })

/-- Receptions that go no further than a counter: a reception ended early and a bad form count as format errors, a bad
CRC as a CRC error, a tool frame for another station as accepted; the frame leaves the line, which is not idle, and a
backoff that waited for its end starts, or waits for an idle line; nothing else of the link or the station changes. A
frame that the receiver does not take in (while the loader reads, while the own attempt is on the line, or before the
line is idle after a reception that ended early) only leaves the line, whatever its kind. That a truncation comes
before the idle line of the same moment is log entry 42. -/
def Obligations.ReceptionsThatGoNoFurther : Prop :=
  (∀ s : State, s.receiving = true →
    let ended : Link := { s.link with
      lineIdle := false, collecting := false,
      inProgress := s.link.inProgress.map fun f => { f with phase := match f.phase with
        | .lostAwaitingEnd n => if n = 0 then .waiting else .backingOff (.running (n * 1024))
        | p => p } }
    exec .receptionEndedEarly s = .next (s.withLink { s.link with
      lineIdle := false, collecting := false, awaitIdle := true,
      counters := { s.link.counters with formatErrors := min 65535 (s.link.counters.formatErrors + 1) },
      inProgress := s.link.inProgress.map fun f => { f with phase := match f.phase with
        | .lostAwaitingEnd n => .lostAwaitingIdle n
        | p => p } }) ∧
    exec .formatError s = .next (s.withLink { ended with
      counters := { s.link.counters with formatErrors := min 65535 (s.link.counters.formatErrors + 1) } }) ∧
    exec .crcError s = .next (s.withLink { ended with
      counters := { s.link.counters with crcErrors := min 65535 (s.link.counters.crcErrors + 1) } }) ∧
    exec .foreignToolFrame s = .next (s.withLink { ended with
      counters := { s.link.counters with accepted := min 65535 (s.link.counters.accepted + 1) } }) ∧
    accept (frameEnd s) = s.withLink { ended with
      counters := { s.link.counters with accepted := min 65535 (s.link.counters.accepted + 1) } }) ∧
  (∀ (c : Instr) (s : State), isFrameCommand c = true →
    s.loader.phase ≠ .done ∨ s.mode.station = none ∨ s.link.awaitIdle = true ∨
      (∃ f, s.link.inProgress = some f ∧ f.phase = .sending) →
    exec c s = .next (s.withLink { s.link with lineIdle := false, collecting := false }))

/-- The CRC: its register over the bits of the worked value, and in general one bit after another, least significant
first, into a register that starts at 0xFFFF. -/
def Obligations.CrcOfTheManual : Prop :=
  crc [1] = 0x7078 ∧
  (∀ (bytes : List Byte) (x : Byte), crc (bytes ++ [x]) = crcByte (crc bytes) x) ∧
  (∀ (r : BitVec 16) (x : Byte), crcByte r x =
    crcBit (crcBit (crcBit (crcBit (crcBit (crcBit (crcBit (crcBit r (x.getLsbD 0)) (x.getLsbD 1)) (x.getLsbD 2))
      (x.getLsbD 3)) (x.getLsbD 4)) (x.getLsbD 5)) (x.getLsbD 6)) (x.getLsbD 7)) ∧
  (∀ (r : BitVec 16) (b : Bool), crcBit r b = if r.msb != b then (r <<< 1) ^^^ 0x1021 else r <<< 1) ∧
  [true, false, false, false, false, false, false, false].foldl (fun rs b => crcBit (rs.headD 0xFFFF) b :: rs)
      ([] : List (BitVec 16)) =
    [0x7078, 0x383C, 0x1C1E, 0x0E0F, 0x8F17, 0xCF9B, 0xEFDD, 0xFFFE]

/-- A station that takes in another's BEACON, PLAN page or INTENT frame reads what the sender put into it, the top
alert among it: the bytes of the frame on the line are the command that carries its content. An entry that provides no
service reads back as well formed with any capacity (log entry 34). -/
def Obligations.StationFramesReadBack : Prop :=
  ∀ (own : Option Byte) (src seq : Byte), isStation src = true → own ≠ some src →
    (∀ s : State, ∃ msg,
        commandOf own (Frame.mk kindBeacon src broadcast seq (beaconPayload s)).wire = .beacon src seq msg ∧
        msg.nightLine = s.mode.nightLevel.getD false ∧ msg.planRequest = s.planRequest ∧
        msg.viewOverflow = s.viewOverflow ∧ msg.isolated = s.mode.isolated ∧
        msg.interval = s.station.statusInterval ∧
        (s.topAlert = none → msg.alertClass = 0) ∧
        (∀ e l, s.topAlert = some (e, l) → l ≤ 7 →
          msg.alertClass.toNat = e.index.val + 1 ∧ msg.alertLevel.toNat = l) ∧
        msg.mode = (if s.listening then .listenIn else match s.mode.plant with
          | .day => .day
          | .night => .night
          | .wake => .wake) ∧
        msg.figures = s.beaconServices.map fun v =>
          { service := BitVec.ofNat 8 v.val, demand := BitVec.ofNat 16 (s.ownDemand v),
            capacity := BitVec.ofNat 16 (s.ownCapacity v) }) ∧
    (∀ (c : Configuration) (k : Nat), k < 3 → ∃ page,
      commandOf own (Frame.mk kindPlan src broadcast seq (pagePayload c k)).wire = .plan src seq page ∧
      (k = 0 → page = .first c.plan ⟨c.services[0], c.services[1], c.services[2], c.services[3]⟩) ∧
      (k = 1 → page = .later 1 ⟨c.services[4], c.services[5], c.services[6], c.services[7]⟩) ∧
      (k = 2 → page = .later 2 ⟨c.services[8], c.services[9], c.services[10], c.services[11]⟩)) ∧
    ∀ es : List Entry, 1 ≤ es.length → es.length ≤ 4 →
      (∀ e ∈ es, e.level < 256 ∧ e.capacity < 65536 ∧ e.inrush < 256 ∧ e.demands.length ≤ 3 ∧
        ∀ d ∈ e.demands, d.2 < 256) →
      ∃ raws, commandOf own (Frame.mk kindIntent src broadcast seq (intentPayload es)).wire = .intent src seq raws ∧
        ((∀ e ∈ es, causeFits e.action e.cause = true ∧ 1 ≤ e.level ∧ e.level ≤ 7 ∧ e.capacity ≤ 4000 ∧
          (e.action = .stop → e.provides.isSome = true) ∧ (e.provides.isSome = true → 1 ≤ e.capacity) ∧
          (e.demands.map Prod.fst).Nodup ∧ ∀ d ∈ e.demands, 1 ≤ d.2) →
        raws.map rawToEntry = es.map some)

/-! ### The peer table -/

/-- A frame accepted from a peer is taken into the sender's entry, which it makes FRESH with its age timer restarted,
or into a new one while the table has room; a full table turns a newcomer away, restarts the overflow timer, and sets
VIEW_OVERFLOW on the entry into the condition. The frame is counted and leaves the line, where its end starts the
backoff that waited for it, as ReceptionsThatGoNoFurther says; it restarts the silence timer and sets the heard mark,
and leaves the rest of the link. A BEACON does to the entry what `takeBeacon` does and may then be answered, a PLAN
page what `takePage` does, an INTENT frame goes on to the round, a REPLY does nothing more. The heard mark is set in
every station state (log entry 21), and the balance is judged, and the night signal formed, once, after the whole
frame (log entries 43 and 46). -/
def Obligations.PeerFramesAreRecorded : Prop :=
  ∀ (src : Byte) (s : State), s.receiving = true → isStation src = true → s.station.address ≠ some src →
    s.peers.Wf → ∀ (c : Instr) (f : PeerEntry → PeerEntry) (finish : State → State),
      (∃ seq msg, c = .beacon src seq msg ∧ msg.figures.length ≤ 12 ∧ f = takeBeacon seq msg ∧
          finish = answerRequest src msg) ∨
        (∃ toggle page, c = .plan src toggle page ∧ page.lengthOk = true ∧ f = takePage s.config toggle page ∧
          finish = id) ∨
        (∃ heard es, c = .intent src heard es ∧ 1 ≤ es.length ∧ es.length ≤ 4 ∧ f = id ∧
          finish = takeIntent src heard es) ∨
        (c = .reply src ∧ f = id ∧ finish = id) →
      let old := (findEntry src s.peers.entries).getD (PeerEntry.created src)
      ∃ u, exec c s = .next (settle (finish u)) ∧
        u = ((s.withPeers u.peers).withLink u.link).withFaults { s.faults with flags := u.faults.flags } ∧
        u.link = { (accept (frameEnd s)).link with
          counters := { s.link.counters with accepted := min 65535 (s.link.counters.accepted + 1) }
          heard := true
          silence := if s.beaconing then .running (4 * s.station.statusInterval.toNat * 1000000)
            else s.link.silence } ∧
        ((findEntry src s.peers.entries).isSome = true ∨ s.peers.entries.length < 32 →
          findEntry src u.peers.entries = some { f old with
            freshness := .fresh,
            age := .running (4 * (f old).interval.getD s.station.statusInterval.toNat * 1000000) } ∧
          (∀ a, a ≠ src → findEntry a u.peers.entries = findEntry a s.peers.entries) ∧
          u.peers.overflow = s.peers.overflow ∧ u.peers.sharedHold = s.peers.sharedHold ∧
          u.faults.flags = (if (f old).planState = .mismatched ∧ old.planState ≠ .mismatched then
            s.faults.flags ||| EventClass.planMismatch.bit else s.faults.flags)) ∧
        (findEntry src s.peers.entries = none → 32 ≤ s.peers.entries.length →
          u.peers = { s.peers with overflow := .running (4 * s.station.statusInterval.toNat * 1000000) } ∧
          u.viewOverflow = true ∧
          u.faults.flags = (if s.viewOverflow then s.faults.flags
            else s.faults.flags ||| EventClass.viewOverflow.bit))

/-- What a beacon does to the sender's entry: the items it carries, the sequence and the gap, and the restart mark.
The plan pages: a repeat is ignored, page 0 starts an assembly, the expected page goes on with it, and page 2
completes it with the plan check; a station without a plan leaves the plan state. -/
def Obligations.BeaconsAndPagesAreTaken : Prop :=
  (∀ (seq : Byte) (msg : BeaconMsg) (e : PeerEntry),
    let t := takeBeacon seq msg e
    let marks := msg.mode = .listenIn ∧ e.mode ≠ some .listenIn
    t.address = e.address ∧ t.mode = some msg.mode ∧ t.night = msg.nightLine ∧
    t.viewOverflow = msg.viewOverflow ∧ t.isolated = msg.isolated ∧
    t.interval = some (max 1 (min 10 msg.interval.toNat)) ∧ t.lastSeq = some seq ∧
    (msg.alertClass.toNat = 0 ∨ 9 < msg.alertClass.toNat → t.topAlert = none) ∧
    (1 ≤ msg.alertClass.toNat → msg.alertClass.toNat ≤ 9 →
      t.topAlert = some (msg.alertClass.toNat, msg.alertLevel.toNat)) ∧
    ((∃ f ∈ msg.figures, 11 < f.service.toNat) ∨ ¬(msg.figures.map RawFigure.service).Nodup →
      t.figures = e.figures) ∧
    ((∀ f ∈ msg.figures, f.service.toNat ≤ 11) → (msg.figures.map RawFigure.service).Nodup →
      t.figures.map (fun f => (f.service.val, f.demand, f.capacity)) =
        msg.figures.map fun f => (f.service.toNat, f.demand, f.capacity)) ∧
    (marks → t.planState = .unchecked ∧ t.lastToggle = none ∧ t.assembly = none ∧ t.answerHold = .off ∧
      t.missed = e.missed) ∧
    (¬marks → t.planState = e.planState ∧ t.lastToggle = e.lastToggle ∧ t.assembly = e.assembly ∧
      t.answerHold = e.answerHold ∧ (e.lastSeq = none → t.missed = e.missed) ∧
      ∀ l, e.lastSeq = some l →
        (seq = l → t.missed = min 255 e.missed) ∧
        (seq ≠ l → t.missed = min 255 (e.missed + (seq.toNat + 255 - l.toNat) % 256)))) ∧
  (∀ (own : Option Configuration) (toggle : Byte) (e : PeerEntry),
    (e.lastToggle = some toggle → ∀ page, takePage own toggle page e = e) ∧
    (e.lastToggle ≠ some toggle →
      (∀ head svcs, takePage own toggle (.first head svcs) e =
        { e with assembly := some { toggle, next := 1, head, services := pageServices svcs } }) ∧
      (∀ p svcs, 2 < p.toNat → takePage own toggle (.later p svcs) e = e) ∧
      (∀ a svcs, e.assembly = some a → a.toggle = toggle → a.next = 1 →
        takePage own toggle (.later 1 svcs) e =
          { e with assembly := some { a with next := 2, services := a.services ++ pageServices svcs } }) ∧
      (∀ a svcs, e.assembly = some a → a.toggle = toggle → a.next = 2 →
        let t := takePage own toggle (.later 2 svcs) e
        t.planHeard = some a.head.planNumber ∧ t.lastToggle = some toggle ∧ t.assembly = none ∧
        t.figures = e.figures ∧ (own = none → t.planState = e.planState) ∧
        ∀ c, own = some c → t.planState =
          if c.plan = a.head ∧ c.services.toList = a.services ++ pageServices svcs then .matched
          else .mismatched) ∧
      (∀ p svcs, e.assembly = none → takePage own toggle (.later p svcs) e = e) ∧
      ∀ a p svcs, e.assembly = some a → (p = 1 ∨ p = 2) → (a.toggle ≠ toggle ∨ a.next ≠ p.toNat) →
        takePage own toggle (.later p svcs) e = { e with assembly := none }))

/-- A plan request is answered when the sender is not MATCHED and its hold is not running: the hold starts, and an
announcement with the present toggle is handed unless one waits unbegun, and then the hold starts all the same (log
entry 23). The senders a full table turned away share one hold. -/
def Obligations.PlanRequestsAreAnswered : Prop :=
  ∀ (src : Byte) (msg : BeaconMsg) (s : State), s.beaconing = true → msg.planRequest = true →
    let t := answerRequest src msg s
    let handed := (s.link.announcementUnbegun = false → t.mode = { s.mode with toggle := !s.mode.toggle } ∧
        t.link = { s.link with waitPages := s.announcement }.takeNext) ∧
      (s.link.announcementUnbegun = true → t.mode = s.mode ∧ t.link = s.link)
    t = ((s.withPeers t.peers).withLink t.link).withMode t.mode ∧
    (∀ e, findEntry src s.peers.entries = some e →
      (e.planState ≠ .matched → e.answerHold = .off → handed ∧
        findEntry src t.peers.entries =
          some { e with answerHold := .running (4 * s.station.statusInterval.toNat * 1000000) } ∧
        (∀ a, a ≠ src → findEntry a t.peers.entries = findEntry a s.peers.entries)) ∧
      (e.planState = .matched ∨ e.answerHold ≠ .off → t = s)) ∧
    (findEntry src s.peers.entries = none →
      (s.peers.sharedHold = .off → handed ∧ t.peers = { s.peers with
        sharedHold := .running (4 * s.station.statusInterval.toNat * 1000000) }) ∧
      (s.peers.sharedHold ≠ .off → t = s))

/-- The timers of the peer table expire: an entry becomes STALE and loses its assembly, the view-overflow condition
ends, an answer hold ends, and no other entry changes. Silence isolates: the flag, the latch, the alert, and an
outstanding INTENT frame taken back from the waiting set or cut off in progress; a station that is ISOLATED only holds
its timer expired (log entry 30). That the cut leaves the receiver's marks as they stand is log entry 47. -/
def Obligations.PeerTimersExpire : Prop :=
  (∀ (a : Byte) (s : State), s.peers.Wf →
    (∀ e, findEntry a s.peers.entries = some e → e.age.isRunning = true →
      ∃ u, exec (.ageTimerExpiry a) s = .next (settle u) ∧ u = s.withPeers { s.peers with entries := u.peers.entries } ∧
        findEntry a u.peers.entries = some { e with freshness := .stale, age := .off, assembly := none } ∧
        (∀ b, b ≠ a → findEntry b u.peers.entries = findEntry b s.peers.entries)) ∧
    (s.viewOverflow = true →
      exec .overflowTimerExpiry s = .next (settle (s.withPeers { s.peers with overflow := .off }))) ∧
    (∀ e, findEntry a s.peers.entries = some e →
      ∃ t, exec (.answerHoldExpiry a) s = .next t ∧ t = s.withPeers { s.peers with entries := t.peers.entries } ∧
        findEntry a t.peers.entries = some { e with answerHold := .off } ∧
        (∀ b, b ≠ a → findEntry b t.peers.entries = findEntry b s.peers.entries)) ∧
    exec .sharedAnswerHoldExpiry s = .next (s.withPeers { s.peers with sharedHold := .off })) ∧
  (∀ s : State, s.beaconing = true → s.link.silence.isRunning = true →
    (s.mode.isolated = false →
      ∃ u, exec .silenceTimerExpiry s = .next (settle u) ∧ u.mode = { s.mode with isolated := true } ∧
        u.link = { s.link with
          silence := .expired, latch := true, heard := false, waitIntent := none,
          inProgress := s.link.inProgress.filter fun f => f.out.origin ≠ Origin.intent }.takeNext ∧
        u.faults = { s.faults with flags := s.faults.flags ||| EventClass.isolated.bit } ∧
        u.round = { s.round with outstanding := none } ∧
        u = (((s.withMode u.mode).withLink u.link).withFaults u.faults).withRound u.round) ∧
    (s.mode.isolated = true →
      exec .silenceTimerExpiry s = .next (s.withLink { s.link with silence := .expired })))

/-- A frame with the station's own address: in LISTEN_IN and ACTIVE the station enters ADDRESS_CONFLICT, every frame
it holds is dropped and the plant mode of a station that listened in is decided; in another state the frame is only
counted as it leaves the line, as ReceptionsThatGoNoFurther says. -/
def Obligations.OwnAddressMeansConflict : Prop :=
  ∀ s : State, s.receiving = true → s.station.address.isSome = true →
    (s.beaconing = true →
      ∃ u, exec .addressConflict s = .next (settle (if s.listening then decideMode u else u)) ∧
        u.mode = { s.mode with
          station := some .addressConflict, isolated := false, beaconT := .off, listenIn := .off } ∧
        u.faults = { s.faults with flags := s.faults.flags ||| EventClass.addressConflict.bit } ∧
        u.link = { s.link with
          inProgress := none, pagesLeft := [], waitIntent := none, waitReply := none, waitPages := [],
          waitBeacon := none, silence := .off, heard := false, lineIdle := false, collecting := false,
          counters := { s.link.counters with accepted := min 65535 (s.link.counters.accepted + 1) } } ∧
        u.round = { s.round with outstanding := none } ∧
        u = (((s.withMode u.mode).withLink u.link).withFaults u.faults).withRound u.round) ∧
    (s.beaconing = false → exec .addressConflict s = .next (accept (frameEnd s)))

/-! ### The balance -/

/-- D(s): the units of the own load points in the demand-counting set and the figure of every peer entry, limited to
65535 once, on the whole sum. -/
def Obligations.DemandIsTheLimitedSum : Prop :=
  ∀ (s : State) (v : SvcId),
    s.demand v = min 65535
      ((lpIds.map fun i => if s.inUse i = true ∧ s.chans[i].state ≠ .unused ∧ s.chans[i].state ≠ .stopped ∧
          s.chans[i].state ≠ .startPending then
        (((s.block i).demands.filter fun d => d.1 = v).map Prod.snd).sum else 0).sum +
      (s.peers.entries.map fun e => match e.figures.find? fun f => f.service = v with
        | some f => f.demand.toNat
        | none => 0).sum) ∧
    s.demand v ≤ 65535

/-- C(s): the capacity of the own providers in the capacity-counting set with RUNn present and the figure of every
peer entry that is FRESH and MATCHED, limited to 65535 once. -/
def Obligations.CapacityIsTheLimitedSum : Prop :=
  ∀ (s : State) (v : SvcId),
    s.capacity v = min 65535
      ((lpIds.map fun i => if s.inUse i = true ∧ (s.block i).providesOf = some v ∧ s.runPresent i = true ∧
          (s.chans[i].state = .running ∨ s.chans[i].state = .idleWatch ∨ s.chans[i].state = .stopPending ∨
            s.chans[i].state = .manual ∨ s.chans[i].state = .excluded ∨ s.chans[i].state = .lockout) then
        (s.block i).capacity.toNat else 0).sum +
      (s.peers.entries.map fun e => if e.freshness = .fresh ∧ e.planState = .matched then
          match e.figures.find? fun f => f.service = v with
          | some f => f.capacity.toNat
          | none => 0
        else 0).sum) ∧
    s.capacity v ≤ 65535

/-- R(s): the larger of Cmin and the demand raised by the margin and rounded up, at most 131070 for a margin of at
most 100, with the points of the manual's table. -/
def Obligations.RequiredCapacityRoundsUp : Prop :=
  (∀ (s : State) (v : SvcId),
    s.required v = max (s.svcBlock v).cmin.toNat
      ((s.demand v * (100 + (s.svcBlock v).margin.toNat) + 99) / 100) ∧
    ((s.svcBlock v).margin.toNat ≤ 100 → s.required v ≤ 131070)) ∧
  (∀ cmin margin demand : Nat, requiredFor cmin margin demand =
      max cmin ⌈((demand * (100 + margin) : ℕ) : ℚ) / 100⌉₊) ∧
  requiredFor 0 15 0 = 0 ∧ requiredFor 0 15 1 = 2 ∧ requiredFor 0 10 100 = 110 ∧ requiredFor 0 10 160 = 176 ∧
  requiredFor 150 15 212 = 244 ∧ requiredFor 150 15 100 = 150 ∧ requiredFor 0 100 65535 = 131070

/-! ### Rounds -/

/-- A peer's INTENT frame opens or joins the round, with the heard count and the doubtful mark; a well-formed entry of
a sender that is not MISMATCHED, of a load point that no entry of its station stands for, is appended while the list
has room, and every other entry is refused, one after another in the order the frame carries them; in GUARD the frame
is late. An entry is not well formed in exactly the cases listed, in which an entry that provides no service may carry
any capacity up to 4000 (log entry 34), and a well-formed one holds what the frame carries. -/
def Obligations.IntentFramesReachTheRound : Prop :=
  (∀ raw : RawEntry, let pairs := [raw.pair0, raw.pair1, raw.pair2].take raw.pairCount.toNat
    (rawToEntry raw = none ↔
      7 < raw.lp.toNat ∨ 1 < raw.action.toNat ∨ (raw.action = 0 ∧ raw.cause ≠ 0) ∨
      (raw.action = 1 ∧ raw.cause ≠ 1 ∧ raw.cause ≠ 2) ∨ raw.level = 0 ∨ 7 < raw.level.toNat ∨
      (raw.provides ≠ 255 ∧ 11 < raw.provides.toNat) ∨ (raw.action = 0 ∧ raw.provides = 255) ∨
      (raw.provides ≠ 255 ∧ raw.capacity = 0) ∨ 4000 < raw.capacity.toNat ∨ 3 < raw.pairCount.toNat ∨
      (∃ p ∈ pairs, p.units = 0 ∨ 11 < p.service.toNat) ∨ ¬(pairs.map RawPair.service).Nodup) ∧
    ∀ e, rawToEntry raw = some e →
      e.lp.val = raw.lp.toNat ∧ e.action = (if raw.action = 0 then .stop else .start) ∧
      e.cause = (if raw.cause = 0 then .night else if raw.cause = 1 then .wake else .shortfall) ∧
      e.level = raw.level.toNat ∧
      e.provides.map Fin.val = (if raw.provides = 255 then none else some raw.provides.toNat) ∧
      e.capacity = raw.capacity.toNat ∧ e.inrush = raw.inrush.toNat ∧
      e.demands.map (fun d => (d.1.val, d.2)) = pairs.map fun p => (p.service.toNat, p.units.toNat)) ∧
  ∀ (src heard : Byte) (es : List RawEntry) (s : State), s.receiving = true → isStation src = true →
    s.station.address ≠ some src → 1 ≤ es.length → es.length ≤ 4 → s.listening = true ∨ s.deciding = true →
    ∃ u, exec (.intent src heard es) s = .next (settle u) ∧
      u = (((s.withPeers u.peers).withLink u.link).withRound u.round).withFaults { s.faults with
        flags := u.faults.flags } ∧
      (s.round.phase = .guarding → u.round = s.round ∧
        u.link.counters.lateIntents = min 65535 (s.link.counters.lateIntents + 1)) ∧
      (s.round.phase ≠ .guarding →
        u.round.phase = .opened ∧ u.round.heard = min 255 (s.round.heard + es.length) ∧
        u.round.doubtful = (s.round.doubtful || decide (s.round.heard < heard.toNat)) ∧
        u.round.join = s.round.join ∧ u.round.queue = s.round.queue ∧
        (s.round.phase = .closed → u.round.window = .running (s.planW * 1000)) ∧
        (s.round.phase = .opened → u.round.window = s.round.window) ∧
        s.round.list <+: u.round.list ∧
        (∀ x ∈ u.round.list.drop s.round.list.length, x.station = src ∧ x.own = none ∧
          some x.entry ∈ es.map rawToEntry) ∧
        (s.mismatched src = true → u.round.list = s.round.list) ∧
        (let taken (list : List ListEntry) (raw : RawEntry) : List ListEntry :=
            match rawToEntry raw with
            | none => list
            | some e =>
              if s.mismatched src = true ∨ (∃ x ∈ list, x.station = src ∧ x.entry.lp = e.lp) ∨ 24 ≤ list.length then
                list
              else list ++ [{ station := src, entry := e, own := none }]
          u.round.list = es.foldl taken s.round.list) ∧
        (s.round.refused ≤ 255 → u.round.refused =
          min 255 (s.round.refused + es.length - (u.round.list.length - s.round.list.length))))

/-- The window closes: the frozen list is recorded with its outcomes, the list is emptied, GUARD begins; when the
guard expires the round is CLOSED with its counts and marks clear. -/
def Obligations.RoundsCloseAndGuard : Prop :=
  ∀ s : State,
    (s.round.phase = .opened →
      ∃ u, exec .roundClose s = .next (settle u) ∧ u.round.phase = .guarding ∧ u.round.window = .off ∧
        u.round.guardT = .running (s.planG * 1000) ∧ u.round.list = [] ∧ u.round.join = false ∧
        u.round.heard = s.round.heard ∧ u.round.refused = s.round.refused ∧
        u.round.doubtful = s.round.doubtful ∧
        u.round.last = some
          { closeTime := s.faults.uptime, budget := s.planB, used := (evaluate s).2,
            heard := s.round.heard, refused := s.round.refused, doubtful := s.round.doubtful,
            isolated := s.mode.isolated, viewOverflow := s.viewOverflow, entries := (evaluate s).1 } ∧
        u = ((((s.withRound u.round).withChans u.chans).withUnits u.units).withProvs u.provs)) ∧
    (s.round.phase = .guarding →
      exec .guardExpiry s = .next (settle (s.withRound { s.round with
        phase := .closed, guardT := .off, heard := 0, refused := 0, doubtful := false })))

/-- ROUND_CLOSE closes an OPEN round. What the close does with the station's own queue: a grant takes the channel of a
queued entry onward and removes the entry; an entry that is not granted stays at its place, and so does its channel.
EveryStepKeepsTheRound keeps the serials and the load points of the queue apart. -/
def Obligations.GrantsReachTheChannels : Prop :=
  (∀ s : State, s.round.phase = .opened → exec .roundClose s = .next (settle (closeRound s))) ∧
  ∀ (s u : State) (q : QueueEntry), u = closeRound s → q ∈ s.round.queue →
    (s.round.queue.map QueueEntry.serial).Nodup → (s.round.queue.map fun q => q.entry.lp).Nodup →
    let granted := ∃ x ∈ (evaluate s).1, x.1.own = some q.serial ∧ x.2 = .granted
    (granted → q ∉ u.round.queue ∧ u.chans[q.entry.lp].entryQueued = false ∧
      (q.entry.action = .stop → s.chans[q.entry.lp].state = .stopPending →
        u.chans[q.entry.lp].state = .stopRequested ∧ u.stopLine q.entry.lp = true) ∧
      (q.entry.action = .start → s.chans[q.entry.lp].state = .startPending →
        u.chans[q.entry.lp].state = .starting ∧ u.stopLine q.entry.lp = false)) ∧
    (¬granted → q ∈ u.round.queue ∧ u.chans[q.entry.lp] = s.chans[q.entry.lp])

/-- The list is sorted by level descending, then station ascending, then load point ascending, and the evaluation
gives each of its entries exactly one outcome. In any one evaluation the inrush of the granted starts sums to no more
than B, unless the first start in order has inrush above B, in which case it is the only start granted, if any is. A
start is deferred when its inrush and those of the starts granted before it exceed B, unless it is the first, and
after a deferred start or a first one above B every start is; one that passes the budget is skipped when a demand of
an in-use service is not covered with the grants before it, or when it bids for a shortfall that the capacity granted
before it has met; any other start is granted. -/
def Obligations.GrantedStartsKeepTheBudget : Prop :=
  (∀ s : State,
    (sortEntries s.round.list).Perm s.round.list ∧
    (sortEntries s.round.list).Pairwise (fun a b => b.entry.level < a.entry.level ∨
      b.entry.level = a.entry.level ∧ (a.station < b.station ∨
        a.station = b.station ∧ a.entry.lp ≤ b.entry.lp)) ∧
    (evaluate s).1.map Prod.fst = sortEntries s.round.list) ∧
  (∀ s : State,
    let starts := (sortEntries s.round.list).filter fun e => e.entry.action = .start
    let granted := ((evaluate s).1.filter fun x => x.1.entry.action = .start ∧ x.2 = .granted).map Prod.fst
    (granted.map fun e => e.entry.inrush).sum = (evaluate s).2 ∧
    ((granted.map fun e => e.entry.inrush).sum ≤ s.planB ∨
      ∃ e rest, starts = e :: rest ∧ s.planB < e.entry.inrush ∧ granted = [e]) ∧
    (∀ e rest, starts = e :: rest → s.planB < e.entry.inrush → granted = [] ∨ granted = [e])) ∧
  ∀ (s : State) (pre post : List (ListEntry × EntryOutcome)) (e : Entry) (x : ListEntry × EntryOutcome),
    ((evaluate s).1.filter fun x => x.1.entry.action = .start) = pre ++ x :: post → e = x.1.entry →
    let granted := (pre.filter fun y => y.2 = .granted).map fun y => y.1.entry
    let ended := (∃ y ∈ pre, y.2 = .deferred) ∨ ∃ y rest, pre = y :: rest ∧ s.planB < y.1.entry.inrush
    let exceeds := pre ≠ [] ∧ s.planB < (granted.map Entry.inrush).sum + e.inrush
    let demandWith (d : SvcId × Nat) := s.demand d.1 +
      (((granted.flatMap Entry.demands).filter fun g => g.1 = d.1).map Prod.snd).sum + d.2
    let uncovered := ∃ d ∈ e.demands, s.svcInUse d.1 = true ∧ s.capacity d.1 <
      max (s.svcBlock d.1).cmin.toNat ((demandWith d * (100 + (s.svcBlock d.1).margin.toNat) + 99) / 100)
    let met := ∃ v, e.cause = .shortfall ∧ e.provides = some v ∧ s.svcInUse v = true ∧
      s.required v ≤ s.capacity v +
        ((granted.filter fun g => g.cause = .shortfall ∧ g.provides = some v).map Entry.capacity).sum
    (ended ∨ exceeds → x.2 = .deferred) ∧
    (¬(ended ∨ exceeds) → uncovered → x.2 = .skippedDemand) ∧
    (¬(ended ∨ exceeds) → ¬uncovered → met → x.2 = .skippedNotNeeded) ∧
    (¬(ended ∨ exceeds) → ¬uncovered → ¬met → x.2 = .granted)

/-- In any one evaluation, for every service of which a stop is granted, C(s) less the capacities of the granted stops
of s is at least R(s); and no stop of the station's own is granted while its view may be incomplete, or in
ADDRESS_CONFLICT (log entry 35). A stop that provides no service in use is denied for SERVICE; one whose capacity with
R(s) exceeds what the stops that the walk granted before it leave of C(s) is denied for CAPACITY; any other is granted
by the walk, and is denied for VIEW where it is an own stop of such a station. -/
def Obligations.GrantedStopsKeepTheRequirement : Prop :=
  (∀ s : State,
    (∀ v : SvcId,
      let stops := ((evaluate s).1.filter fun x =>
        x.1.entry.action = .stop ∧ x.1.entry.provides = some v ∧ x.2 = .granted).map fun x => x.1.entry.capacity
      stops ≠ [] → s.svcInUse v = true ∧ stops.sum + s.required v ≤ s.capacity v) ∧
    (s.mode.isolated = true ∨ s.viewOverflow = true ∨ s.round.doubtful = true ∨ s.inConflict = true →
      ∀ x ∈ (evaluate s).1, x.1.own.isSome = true → x.1.entry.action = .stop → x.2 ≠ .granted)) ∧
  ∀ (s : State) (pre post : List (ListEntry × EntryOutcome)) (e : Entry) (x : ListEntry × EntryOutcome),
    ((evaluate s).1.filter fun x => x.1.entry.action = .stop) = pre ++ x :: post → e = x.1.entry →
    let incomplete := s.mode.isolated = true ∨ s.viewOverflow = true ∨ s.round.doubtful = true ∨ s.inConflict = true
    let taken (v : SvcId) := ((pre.filter fun y =>
      y.1.entry.provides = some v ∧ (y.2 = .granted ∨ y.2 = .deniedView)).map fun y => y.1.entry.capacity).sum
    ((∀ v, e.provides = some v → s.svcInUse v = false) → x.2 = .deniedService) ∧
    ∀ v, e.provides = some v → s.svcInUse v = true →
      (s.capacity v < taken v + (e.capacity + s.required v) → x.2 = .deniedCapacity) ∧
      (taken v + (e.capacity + s.required v) ≤ s.capacity v →
        (x.1.own.isSome = true → incomplete → x.2 = .deniedView) ∧
        (¬(x.1.own.isSome = true ∧ incomplete) → x.2 = .granted))

/-! ### Station modes -/

/-- The NIGHT level: its first level and its edges are taken, and the night signal and the plant mode follow. The
night signal is formed from the own NIGHT level and, in LISTEN_IN and ACTIVE of a following station, from FRESH and
MATCHED peers, and is released in PASSIVE. LISTEN_IN ends: the station is ACTIVE and the plant mode is decided from
the night signal and the channels. An edge to the level the line has changes nothing, and an edge before the first
level is taken as one (log entry 8). -/
def Obligations.NightIsTakenAndDecided : Prop :=
  (∀ (asserted : Bool) (s : State), s.loaded = true →
    (s.mode.nightLevel = none → exec (.nightFirstLevel asserted) s =
      .next (settle (s.withMode { s.mode with nightLevel := some asserted }))) ∧
    (s.mode.nightLevel ≠ some asserted → exec (.nightEdge asserted) s =
      .next (settle (s.withMode { s.mode with nightLevel := some asserted }))) ∧
    (s.mode.nightLevel = some asserted → exec (.nightEdge asserted) s = .next s)) ∧
  (∀ s : State,
    (s.mode.station = some .listenIn ∨ s.mode.station = some .active →
      (s.nightSignal = true ↔ s.mode.nightLevel = some true ∨ s.station.followPlantNight = 1 ∧
        ∃ e ∈ s.peers.entries, e.freshness = .fresh ∧ e.planState = .matched ∧ e.night = true)) ∧
    (s.mode.station = some .addressConflict → (s.nightSignal = true ↔ s.mode.nightLevel = some true)) ∧
    (s.mode.station = some .passive → s.nightSignal = false)) ∧
  (∀ s : State, s.mode.station = some .listenIn → s.mode.listenIn.isRunning = true →
    exec .listenInTimerExpiry s =
      .next (settle (enterMode
        (if s.nightSignal then .night
          else if ∃ i : LpId, s.inUse i = true ∧ (s.chans[i].state = .stopRequested ∨
            s.chans[i].state = .coasting ∨ s.chans[i].state = .stopped ∨ s.chans[i].state = .startPending ∨
            s.chans[i].state = .starting) then .wake
          else .day)
        (s.withMode { s.mode with station := some .active, listenIn := .off }))))

/-- The beacon timer expires: a beacon with the present sequence is handed to the link, the sequence rises by one from
255 to 0, and the timer restarts. A beacon that still waits is replaced; when its outcome calls for an announcement,
that is handed in the same event, unless one waits unbegun. Where LISTEN_IN ends in the same event, its end is taken
first. -/
def Obligations.BeaconsAreHanded : Prop :=
  ∀ s : State, s.beaconing = true → s.mode.beaconT.isRunning = true →
    (¬(s.listening = true ∧ s.mode.listenIn = .running 0) →
      ∃ t f, exec .beaconTimerExpiry s = .next t ∧ t = (s.withLink t.link).withMode t.mode ∧
        f.origin = .beacon (s.mode.seq.toNat % 64 = 0) ∧
        f.frame = { kind := 1, source := s.ownAddress, destination := 255, seq := s.mode.seq,
                    payload := beaconPayload s } ∧
        ((∀ w, s.link.waitBeacon = some w → w.origin ≠ .beacon true) →
          t.mode = { s.mode with
            seq := s.mode.seq + 1, beaconT := .running (s.station.statusInterval.toNat * 1000000) } ∧
          t.link = { s.link with waitBeacon := some f }.takeNext) ∧
        (∀ w, s.link.waitBeacon = some w → w.origin = .beacon true → s.link.inProgress ≠ none →
          (s.link.announcementUnbegun = false →
            t.mode = { s.mode with
              seq := s.mode.seq + 1, beaconT := .running (s.station.statusInterval.toNat * 1000000)
              toggle := !s.mode.toggle } ∧
            t.link = { s.link with waitBeacon := some f, waitPages := s.announcement }) ∧
          (s.link.announcementUnbegun = true →
            t.mode = { s.mode with
              seq := s.mode.seq + 1, beaconT := .running (s.station.statusInterval.toNat * 1000000) } ∧
            t.link = { s.link with waitBeacon := some f }))) ∧
    (s.listening = true → s.mode.listenIn = .running 0 →
      ∃ t, exec .listenInTimerExpiry s = .next t ∧ t.isActive = true ∧
        exec .beaconTimerExpiry s = exec .beaconTimerExpiry t ∧ t.mode.beaconT = s.mode.beaconT)

/-! ### Faults and alerts -/

/-- The uptime rises by one each second, from 4294967295 to 0, and no other command but power-on moves it. -/
def Obligations.UptimeCountsSeconds : Prop :=
  (∀ s : State, exec .uptimeTick s =
    .next (s.withFaults { s.faults with uptime := s.faults.uptime + 1 })) ∧
  (∀ s : State, s.faults.uptime = 4294967295 →
    exec .uptimeTick s = .next (s.withFaults { s.faults with uptime := 0 })) ∧
  ∀ (c : Instr) (s t : State), c ≠ .uptimeTick → c ≠ .powerOn → exec c s = .next t →
    t.faults.uptime = s.faults.uptime

/-- First capture: what a report leaves in a clear record and in a valid one. A valid record keeps its first fault
under every command but CLEAR_FAULT and power-on, and its count of further faults never falls; a set alert flag stays
set under every command but CLEAR_ALERTS and power-on. -/
def Obligations.FirstCaptureStands : Prop :=
  (∀ (r : FaultRecord) (code : FaultCode) (time : BitVec 32) (st : FaultState) (locking : Bool),
    (r.valid = false → r.report code time st locking =
      { valid := true, first := some code, firstTime := time, stateAt := some st, locking, last := none,
        further := 0, overflow := false }) ∧
    (r.valid = true → r.report code time st locking =
      { r with last := some code, further := min 255 (r.further + 1), overflow := true })) ∧
  (∀ (c : Instr) (s t : State), s.faults.Wf → c ≠ .powerOn → exec c s = .next t →
    ((∀ seq lps station, c ≠ .clearFault seq lps station) →
      ∀ r r', (∃ i : LpId, r = s.faults.lps[i] ∧ r' = t.faults.lps[i]) ∨
          r = s.faults.station ∧ r' = t.faults.station →
        r.valid = true → r'.valid = true ∧ r'.first = r.first ∧ r'.firstTime = r.firstTime ∧
          r'.stateAt = r.stateAt ∧ r'.locking = r.locking ∧ r.further ≤ r'.further) ∧
    ((∀ seq classes, c ≠ .clearAlerts seq classes) →
      ∀ e : EventClass, s.flagSet e = true → t.flagSet e = true))

/-- ALERT and the top alert: asserted while a set flag's level reaches the threshold; the set flag of the highest
level, the first in class order among equals, none while no flag is set. -/
def Obligations.AlertAndTopAlert : Prop :=
  ∀ s : State,
    (s.alertAsserted = true ↔
      ∃ c : EventClass, s.flagSet c = true ∧ s.station.alertThreshold.toNat ≤ s.classLevel c) ∧
    (s.topAlert = none ↔ ∀ c : EventClass, s.flagSet c = false) ∧
    ∀ c l, s.topAlert = some (c, l) → s.flagSet c = true ∧ l = s.classLevel c ∧
      ∀ e : EventClass, s.flagSet e = true → s.classLevel e < s.classLevel c ∨
        s.classLevel e = s.classLevel c ∧ c.index ≤ e.index

/-- A hard lockout is cleared by power-on and by nothing else the station takes in. -/
def Obligations.HardLockoutStands : Prop :=
  ∀ (c : Instr) (s t : State) (i : LpId), c ≠ .powerOn → s.loader.phase = .done → exec c s = .next t →
    s.chans[i].HardHeld → t.chans[i].HardHeld

/-! ### The service tool -/

/-- A reply is a member of the REPLY group with the station's address as source, 0 as destination and the request's
sequence: it waits behind a frame in progress, replacing an earlier one in the waiting set, or goes into progress at
once; that a reply already in progress is not replaced, though it still waits for the line, is log entry 39. A refused
request changes nothing but the count of R78 and its own reply: a bad table, a bad directive, a directive in PASSIVE,
an argument outside its form, an unknown peer, and a mask with a hard lockout or a load point in MANUAL; that the
reply to an unknown table or directive echoes its code is log entry 40. A request that reaches a station in
ADDRESS_CONFLICT, or one without an address, is counted and not acted on, but for RESTART in ADDRESS_CONFLICT. -/
def Obligations.RepliesAndRefusals : Prop :=
  (∀ (seq : Byte) (payload : List Byte) (s : State) (a : Byte), s.station.address = some a →
    s.inConflict = false → ∃ f : OutFrame, f.origin = .reply ∧
      f.frame = { kind := 10, source := a, destination := 0, seq := seq, payload := payload } ∧
      handReply seq payload s = s.withLink (handReply seq payload s).link ∧
      (s.link.inProgress ≠ none → (handReply seq payload s).link = { s.link with waitReply := some f }) ∧
      (s.link.inProgress = none → s.link.pagesLeft = [] → s.link.waitIntent = none →
        (handReply seq payload s).link.inProgress.map Sending.out = some f)) ∧
  (∀ (c : Instr) (seq : Byte) (s : State), s.receiving = true →
    (isRequest c = true → s.station.address = none ∨ s.inConflict = true →
      exec c s = .next (accept (frameEnd s))) ∧
    (s.station.address = none → exec (.restart seq) s = .next (accept (frameEnd s)))) ∧
  (∀ (seq : Byte) (s : State), s.receiving = true → s.station.address.isSome = true → s.inConflict = false →
    let b := accept (frameEnd s)
    (∀ table start count, isToolCode table = false →
      exec (.badTable seq table start count) s = .next (handReply seq [8, table, 3, 1, 0] b)) ∧
    (s.mode.station ≠ some .passive → ∀ code arg, isToolCode code = false →
      exec (.badDirective seq code arg) s = .next (handReply seq [9, code, 3, 3, 0] b)) ∧
    (s.mode.station ≠ some .passive → ∀ a, isStation a = false →
      exec (.forgetPeer seq a) s = .next (handReply seq [9, 5, 3, 4, 0] b)) ∧
    (s.mode.station ≠ some .passive → ∀ a, isStation a = true → findEntry a s.peers.entries = none →
      exec (.forgetPeer seq a) s = .next (handReply seq [9, 5, 3, 7, a] b)) ∧
    (s.mode.station ≠ some .passive → ∀ m, 512 ≤ m.toNat →
      exec (.clearAlerts seq m) s = .next (handReply seq [9, 6, 3, 4, 0] b)) ∧
    (s.mode.station ≠ some .passive → ∀ m i, s.inUse i = true → maskBit m i = true → s.chans[i].lockout = .hard →
      ∃ mask, exec (.clearLockout seq m) s = .next (handReply seq [9, 2, 3, 5, mask] b) ∧
        ∀ j, maskBit mask j = (s.inUse j && maskBit m j && s.chans[j].lockout == .hard)) ∧
    (s.mode.station ≠ some .passive → ∀ m i, s.inUse i = true → maskBit m i = true → s.chans[i].state = .manual →
      ∃ mask, exec (.excludeLps seq m) s = .next (handReply seq [9, 3, 3, 6, mask] b) ∧
        ∀ j, maskBit mask j = (s.inUse j && maskBit m j && s.chans[j].state == .manual)) ∧
    (s.mode.station = some .passive → ∀ m station classes a code arg, isToolCode code = false →
      exec (.clearFault seq m station) s = .next (handReply seq [9, 1, 3, 8, 0] b) ∧
      exec (.clearLockout seq m) s = .next (handReply seq [9, 2, 3, 8, 0] b) ∧
      exec (.excludeLps seq m) s = .next (handReply seq [9, 3, 3, 8, 0] b) ∧
      exec (.includeLps seq m) s = .next (handReply seq [9, 4, 3, 8, 0] b) ∧
      exec (.forgetPeer seq a) s = .next (handReply seq [9, 5, 3, 8, 0] b) ∧
      exec (.clearAlerts seq classes) s = .next (handReply seq [9, 6, 3, 8, 0] b) ∧
      exec (.badDirective seq code arg) s = .next (handReply seq [9, code, 3, 8, 0] b)))

/-- The seven inquiries: within the table, the reply holds whole records from the start index on, as many as count,
the table's end and 58 bytes (56 for the peer table, whose reply opens with the view-overflow mark and the time its
timer has left, in whole seconds rounded up, log entry 5) allow; and forming it clears what R168 names and nothing
else: the counters and the isolation latch when their record is held, the direction-change flags of the held records.
And what the records of the seven tables hold, item by item in the layouts of section 11.3: remaining times rounded up
and times run rounded down (log entry 5), the expired lead timer as 0 and expired surplus and shortfall timers at
their full time (log entry 24), the lockout kind none as all ones (log entry 11), the activity mode of an unused load
point as NONE (log entry 37), the demand pairs that an entry does not have as free bytes (log entry 3), and the
configuration as it is held, with the demand pairs beyond the pair count as stored (log entry 33). -/
def Obligations.InquiriesAreAnswered : Prop :=
  (∀ (seq start count : Byte) (s : State) (table : Table) (c : Instr) (code : Byte), s.receiving = true →
    s.station.address.isSome = true → s.inConflict = false →
    (table, c, code) ∈ [(Table.stationStatus, Instr.inquiryStationStatus seq start count, (1 : Byte)),
      (.lpRuntime, .inquiryLpRuntime seq start count, 2), (.peerTable, .inquiryPeerTable seq start count, 3),
      (.lastRound, .inquiryLastRound seq start count, 4), (.faultRecords, .inquiryFaultRecords seq start count, 5),
      (.counters, .inquiryCounters seq start count, 6),
      (.configurationEcho, .inquiryConfigurationEcho seq start count, 7)] →
    let b := accept (frameEnd s)
    let records := table.records b
    (records.length ≤ start.toNat →
      exec c s = .next (handReply seq [8, code, 3, 2, BitVec.ofNat 8 records.length] b)) ∧
    (start.toNat < records.length → ∃ held front u,
      exec c s = .next (handReply seq ([8, code, 1, start, BitVec.ofNat 8 held.length,
        BitVec.ofNat 8 records.length] ++ front ++ held.flatten) u) ∧
      held <+: records.drop start.toNat ∧ held.length ≤ count.toNat ∧ front.length + held.flatten.length ≤ 58 ∧
      front = (if table = .peerTable then
          [if s.viewOverflow then 1 else 0,
           match s.peers.overflow with
            | .running us => BitVec.ofNat 8 ((us + 999999) / 1000000)
            | .off => 255
            | .expired => 0]
        else []) ∧
      (held.length < count.toNat → start.toNat + held.length < records.length →
        ∀ r, records[start.toNat + held.length]? = some r → 58 < front.length + held.flatten.length + r.length) ∧
      (table = .counters → u = (if held = [] then b
          else b.withLink { b.link with counters := LinkCounters.zero, latch := false }) ∧
        held = if count = 0 then [] else [counterRecord b]) ∧
      (table = .lpRuntime → u = b.withUnits u.units ∧ ∀ i : LpId, u.units[i] =
        if start.toNat ≤ i.val ∧ i.val < start.toNat + held.length then { b.units[i] with dirFlag := false }
        else b.units[i]) ∧
      (table ≠ .counters → table ≠ .lpRuntime → u = b))) ∧
  ∀ s : State,
    let n (w x : Nat) : List Byte := (List.range w).map fun k => BitVec.ofNat 8 (x / 256 ^ k)
    let opt (w : Nat) (x : Option Nat) : List Byte := match x with
      | some x => n w x
      | none => List.replicate w 255
    let mark (b : Bool) : List Byte := [if b then 1 else 0]
    let marks (bs : List Bool) : Nat := bs.foldr (fun b m => (if b then 1 else 0) + 2 * m) 0
    let left (unit : Nat) (x : Timer) : Option Nat := match x with
      | .off => none
      | .running us => some ((us + unit - 1) / unit)
      | .expired => some 0
    let ran (full : Nat) (x : Timer) : Option Nat := match x with
      | .off => none
      | .running us => some (us / 1000000)
      | .expired => some full
    let entry (e : Entry) : List Byte := n 1 e.lp.val ++ n 1 ([Action.stop, .start].idxOf e.action) ++
      n 1 ([Cause.night, .wake, .shortfall].idxOf e.cause) ++ n 1 e.level ++ opt 1 (e.provides.map Fin.val) ++
      n 2 e.capacity ++ n 1 e.inrush ++ n 1 e.demands.length ++ [0, 1, 2].flatMap fun k => match e.demands[k]? with
        | some d => n 1 d.1.val ++ n 1 d.2
        | none => [Config.unusedPairByte (2 * k), Config.unusedPairByte (2 * k + 1)]
    let object (o : ImageObject) : Nat := match o with
      | .station => 0
      | .plan => 1
      | .service v => 2 + v.val
      | .loadPoint i => 14 + i.val
    let clamped : List Byte := match s.loader.firstClamped with
      | some (o, k) => n 1 (object o) ++ n 1 k
      | none => [255, 255]
    let imageStatus : List Byte := opt 1 (s.loader.status.map fun x => [.good, .goodClamped, .rejected].idxOf x)
    let top (x : Option (Nat × Nat)) : List Byte := match x with
      | some (c, l) => n 1 (16 * c + l)
      | none => [0]
    let code (x : Option FaultCode) : List Byte := match x with
      | none => [255, 255, 255]
      | some (.imageStructure sub o) => n 1 9 ++ n 1 sub ++ n 1 (object o)
      | some c => n 1 (1 + [.grantRefused, .stopNotSeen, .startNotSeen, .coastOverrun, .outputStuck, .imageMissing,
          .imageFormat, .imageSum, .imageStructure 0 .station, .clamped].idxOf c) ++ [255, 255]
    let lpState (st : LpState) : Nat := [.unused, .running, .idleWatch, .stopPending, .stopRequested, .coasting,
      .stopped, .startPending, .starting, .manual, .excluded, .lockout].idxOf st
    let service (b : ServiceBlock) : List Byte := [b.inUse, b.margin] ++ n 2 b.cmin.toNat ++
      n 2 b.surplusHold.toNat ++ [b.shortfallConfirm]
    let fault (r : FaultRecord) : List Byte := n 1 (marks [r.valid, r.locking, r.overflow]) ++ code r.first ++
      n 4 r.firstTime.toNat ++ opt 1 (r.stateAt.map fun x => match x with
        | .lp st => lpState st
        | .startUp => 0
        | .passive => 1) ++ code r.last ++ n 1 r.further
    Table.stationStatus.records s =
      (opt 1 (s.mode.station.map fun x => [.passive, .listenIn, .active, .addressConflict].idxOf x) ++
        n 1 ([.day, .night, .wake].idxOf s.mode.plant) ++ mark s.mode.isolated ++
        opt 1 (s.mode.nightLevel.map Bool.toNat) ++ mark s.nightSignal ++ [s.station.followPlantNight] ++
        opt 1 (left 1000000 s.mode.listenIn) ++ n 4 s.faults.uptime.toNat ++ imageStatus ++
        n 1 s.loader.clampCount ++ clamped ++ n 1 ([.closed, .opened, .guarding].idxOf s.round.phase) ++
        opt 2 (match s.round.phase with
          | .opened => left 1000 s.round.window
          | .guarding => left 1000 s.round.guardT
          | .closed => none) ++
        n 1 s.round.heard ++ mark s.round.join ++ mark s.round.doubtful ++ n 2 s.faults.flags.toNat ++
        s.station.levels.toList ++ [s.station.alertThreshold] ++
        top (s.topAlert.map fun x => (x.1.index.val + 1, x.2)) ++ mark s.alertAsserted) ::
      ((svcIds.map fun v =>
        if s.svcInUse v then
          n 2 (s.demand v) ++ n 2 (s.capacity v) ++ n 3 (s.required v) ++
          opt 1 (ran (s.svcBlock v).shortfallConfirm.toNat s.svcs[v].timer) ++
          n 1 (marks [s.svcs[v].confirmed, s.svcs[v].inForce])
        else [255, 255, 255, 255, 255, 255, 255, 255, 128]) ++
      (List.range 8).map fun k => match s.round.queue[k]? with
        | some q => entry q.entry ++ mark (s.round.committed q.serial)
        | none => List.replicate 16 255) ∧
    Table.lpRuntime.records s = (lpIds.map fun i =>
      let c := s.chans[i]
      let u := s.units[i]
      let p := s.provs[i]
      n 1 (lpState c.state) ++ opt 1 (left 1000000 c.stopT) ++ opt 2 (left 1000000 c.coastT) ++
      opt 1 (left 1000000 c.startT) ++ opt 1 (left 1000000 c.settleT) ++ opt 2 (left 1000000 c.runOnT) ++
      opt 2 (left 1000000 c.leadT) ++ opt 1 (c.cause.map fun x => 1 + [.wake, .shortfall].idxOf x) ++ n 1 c.retry ++
      n 1 c.recalls ++ opt 1 (match c.lockout with
        | .none => none
        | .soft => some 1
        | .hard => some 2) ++
      opt 1 (left 1000 c.watch) ++
      n 2 (marks [c.overrun, c.runOnDone, c.surplusHeld, c.entryQueued, c.autoOff, u.armed, u.dirFlag,
        s.isProvider i && p.established, s.isProvider i && p.reported]) ++
      n 1 ([.none, .stroke, .loadLevel, .rotation, .paired].idxOf (s.unitMode i)) ++ n 2 u.count.toNat ++
      opt 1 (u.loaded.map Bool.toNat) ++ n 2 u.idle ++ n 2 u.lastDelta.toNat ++
      opt 1 (u.lastSign.map fun x => [.plus, .minus].idxOf x) ++ n 1 u.dirCount ++ n 1 u.runCount ++
      opt 2 (match s.provided i with
        | some v => ran (s.svcBlock v).surplusHold.toNat p.timer
        | none => none)) ∧
    (Table.peerTable.records s).length = s.peers.entries.length ∧
    (∀ (k : Nat) (e : PeerEntry), s.peers.entries[k]? = some e → ∃ figures : List Figure,
      figures.Perm e.figures ∧ figures.Pairwise (fun f g => f.service ≤ g.service) ∧
      (Table.peerTable.records s)[k]? = some ([e.address] ++
        n 1 (marks [e.freshness == .stale, e.planState == .matched, e.planState == .mismatched, e.night,
          e.viewOverflow, e.isolated, e.assembly.isSome]) ++
        opt 1 (e.mode.map fun x => [.listenIn, .day, .night, .wake].idxOf x) ++ opt 1 e.interval ++
        opt 1 (e.lastSeq.map BitVec.toNat) ++ n 1 e.missed ++ opt 1 (left 1000000 e.age) ++ top e.topAlert ++
        opt 2 (e.planHeard.map BitVec.toNat) ++ opt 1 (e.lastToggle.map BitVec.toNat) ++
        opt 1 (e.assembly.map Assembly.next) ++ opt 1 (left 1000000 e.answerHold) ++ n 1 e.figures.length ++
        (figures.take 8).flatMap fun f => n 1 f.service.val ++ n 2 f.demand.toNat ++ n 2 f.capacity.toNat)) ∧
    Table.lastRound.records s = (match s.round.last with
      | none => []
      | some r => (n 4 r.closeTime.toNat ++ n 2 r.budget ++ n 2 r.used ++ n 1 r.heard ++ n 1 r.refused ++
          n 1 (marks [r.doubtful, r.isolated, r.viewOverflow])) :: r.entries.map fun x =>
        [x.1.station] ++ entry x.1.entry ++ (match x.2 with
          | .granted => [0, 0]
          | .deferred => [1, 0]
          | .skippedDemand => [2, 1]
          | .skippedNotNeeded => [2, 2]
          | .deniedCapacity => [3, 3]
          | .deniedService => [3, 4]
          | .deniedView => [3, 5])) ∧
    Table.faultRecords.records s = (lpIds.map fun i => fault s.faults.lps[i]) ++ [fault s.faults.station] ∧
    Table.counters.records s = [n 2 s.link.counters.accepted ++ n 2 s.link.counters.crcErrors ++
      n 2 s.link.counters.formatErrors ++ n 2 s.link.counters.lostContentions ++ n 2 s.link.counters.abandoned ++
      n 2 s.link.counters.lateIntents ++ n 2 s.link.counters.missedRounds ++ mark s.link.latch] ∧
    Table.configurationEcho.records s =
      (opt 1 (s.station.address.map BitVec.toNat) ++
        [s.station.statusInterval, s.station.followPlantNight, s.station.alertThreshold] ++
        s.station.levels.toList ++ imageStatus ++ n 1 s.loader.clampCount ++ clamped) :: match s.config with
      | none => []
      | some c => (n 2 c.plan.planNumber.toNat ++ n 2 c.plan.w.toNat ++ n 2 c.plan.g.toNat ++ n 2 c.plan.b.toNat) ::
        ((svcIds.map fun v => service c.services[v]) ++ lpIds.map fun i =>
          let b := c.lps[i]
          [b.inUse, b.control, b.activityMode, b.edge, b.loadPolarity] ++ n 2 b.idleLimit.toNat ++
          [b.level, b.leader] ++ n 2 b.runOn.toNat ++ n 2 b.leadTime.toNat ++ [b.provides] ++
          n 2 b.capacity.toNat ++ [b.startSettle, b.pairCount, b.pair0.service, b.pair0.units, b.pair1.service,
            b.pair1.units, b.pair2.service, b.pair2.units, b.inrush, b.grantTimeout, b.feedbackTimeout, b.retries,
            b.reportOnExhaust] ++ n 2 b.coastLimit.toNat ++
          [b.standstillThreshold, b.standstillSamples, b.startTimeout])

/-- The accepted directives, each in the event of its reply: CLEAR_FAULT empties the named records, CLEAR_ALERTS the
named flags, FORGET_PEER removes the entry; CLEAR_LOCKOUT, EXCLUDE and INCLUDE take each named load point that stands
in the state they act on to the state they lead to, with its entry withdrawn, before any consequence at another (log
entry 4), and leave every other load point, its unit and its surplus record, and the rest of the round. -/
def Obligations.AcceptedDirectives : Prop :=
  (∀ (seq : Byte) (s : State), s.receiving = true → s.station.address.isSome = true →
    s.mode.station = some .listenIn ∨ s.mode.station = some .active →
    let b := accept (frameEnd s)
    (∀ m station, ∃ u, exec (.clearFault seq m station) s = .next (handReply seq [9, 1, 2] u) ∧
      u = b.withFaults u.faults ∧ u.faults.flags = s.faults.flags ∧ u.faults.uptime = s.faults.uptime ∧
      u.faults.station = (if station then FaultRecord.clear else s.faults.station) ∧
      ∀ i : LpId, u.faults.lps[i] =
        if s.inUse i = true ∧ maskBit m i = true then FaultRecord.clear else s.faults.lps[i]) ∧
    (∀ m, m.toNat < 512 → ∃ u, exec (.clearAlerts seq m) s = .next (handReply seq [9, 6, 2] u) ∧
      u = b.withFaults { s.faults with flags := u.faults.flags } ∧
      ∀ e : EventClass, u.flagSet e = (s.flagSet e && !m.getLsbD e.index.val)) ∧
    (∀ a, isStation a = true → (findEntry a s.peers.entries).isSome = true →
      ∃ u, exec (.forgetPeer seq a) s = .next (handReply seq [9, 5, 2] (settle u)) ∧
        u.peers = { s.peers with entries := s.peers.entries.filter fun e => e.address != a } ∧
        u.link = (if u.peers.entries = [] then { b.link with silence := .off } else b.link) ∧
        u = (b.withPeers u.peers).withLink u.link)) ∧
  (∀ (seq m : Byte) (s : State), s.receiving = true → s.station.address.isSome = true →
    s.mode.station = some .listenIn ∨ s.mode.station = some .active →
    let b := accept (frameEnd s)
    let acted (u : State) (moves : LpId → Prop) (after : LpId → State) : Prop :=
      u = ((((b.withRound { s.round with queue := u.round.queue }).withChans u.chans).withUnits u.units).withProvs
        u.provs) ∧
      (∀ q, q ∈ u.round.queue ↔ q ∈ s.round.queue ∧ ¬moves q.entry.lp) ∧ u.round.queue.Sublist s.round.queue ∧
      ∀ i : LpId,
        (moves i → u.chans[i] = (after i).chans[i] ∧ u.units[i] = (after i).units[i] ∧
          u.provs[i] = (after i).provs[i]) ∧
        (¬moves i → u.units[i] = s.units[i] ∧ u.provs[i] = s.provs[i])
    let named (i : LpId) : Prop := s.inUse i = true ∧ maskBit m i = true
    let unlocked (i : LpId) : Chan := { s.chans[i] with lockout := .none }
    ((∀ i, s.inUse i = true → maskBit m i = true → s.chans[i].lockout ≠ .hard) →
      ∃ u, exec (.clearLockout seq m) s = .next (handReply seq [9, 2, 2] (settle u)) ∧
        acted u (fun i => named i ∧ s.chans[i].lockout = .soft ∧ s.chans[i].state = .lockout)
          (fun i => enter i .running (b.setChan i (unlocked i))) ∧
        ∀ i : LpId,
          (named i → s.chans[i].lockout = .soft → s.chans[i].state ≠ .lockout → u.chans[i] = unlocked i) ∧
          (¬named i ∨ s.chans[i].lockout ≠ .soft → u.chans[i] = s.chans[i])) ∧
    ((∀ i, s.inUse i = true → maskBit m i = true → s.chans[i].state ≠ .manual) →
      ∃ u, exec (.excludeLps seq m) s = .next (handReply seq [9, 3, 2] (settle u)) ∧
        acted u (fun i => named i ∧ s.chans[i].state ≠ .lockout ∧ s.chans[i].state ≠ .excluded)
          (fun i => enter i .excluded b) ∧
        ∀ i : LpId,
          (named i → s.chans[i].state ≠ .lockout → u.chans[i].state = .excluded ∧ u.stopLine i = false) ∧
          (¬named i ∨ s.chans[i].state = .lockout ∨ s.chans[i].state = .excluded →
            u.chans[i] = s.chans[i])) ∧
    ∃ u, exec (.includeLps seq m) s = .next (handReply seq [9, 4, 2] (settle u)) ∧
      acted u (fun i => named i ∧ s.chans[i].state = .excluded) (fun i => enter i .running b) ∧
      ∀ i : LpId, ¬named i ∨ s.chans[i].state ≠ .excluded → u.chans[i] = s.chans[i])

/-- RESTART outside PASSIVE: every block is left as R152's table gives. Each in-use channel is restored as R66 gives,
each unit as R35, the balance and the table are cleared, every frame held is dropped, and the consequences of that are
taken; then LISTEN_IN begins, with its timers and its first beacon handed, and behind it the announcement of a beacon
that was discarded (log entry 22). Unused channels hold their power-on values, as EveryStepKeepsTheQueueMarks says.
The directive is answered except in ADDRESS_CONFLICT. In PASSIVE the loader starts to read the image again, and the
reply is handed at the outcome, with the address the station then holds. -/
def Obligations.RestartRestores : Prop :=
  (∀ (seq : Byte) (s : State), s.QueueMarks → s.receiving = true → s.station.address.isSome = true →
    s.mode.station ≠ some .passive →
    let t := warmRestart (accept (frameEnd s))
    let announces := s.beaconing = true ∧
      ((∃ g, s.link.inProgress = some g ∧ g.out.origin = .beacon true) ∨
        ∃ w, s.link.waitBeacon = some w ∧ w.origin = .beacon true)
    (s.inConflict = false → exec (.restart seq) s = .next (handReply seq [9, 7, 2] t)) ∧
    (s.inConflict = true → exec (.restart seq) s = .next t) ∧
    t.loader = s.loader ∧ t.station = s.station ∧ t.config = s.config ∧ t.lines = s.lines ∧
    t.peers = PeerTable.reset ∧
    (t.faults = s.faults ∨ t.faults = { s.faults with flags := s.faults.flags ||| EventClass.recalled.bit }) ∧
    t.mode.station = some .listenIn ∧ t.mode.plant = s.mode.plant ∧ t.mode.isolated = false ∧
    t.mode.nightLevel = s.mode.nightLevel ∧
    t.mode.listenIn = .running (max 8 (4 * s.station.statusInterval.toNat) * 1000000) ∧
    t.mode.beaconT = .running (s.station.statusInterval.toNat * 1000000) ∧ t.mode.seq = s.mode.seq + 1 ∧
    (announces → t.mode.toggle = !s.mode.toggle) ∧ (¬announces → t.mode.toggle = s.mode.toggle) ∧
    t.round.phase = .closed ∧ t.round.list = [] ∧ t.round.queue = [] ∧ t.round.last = none ∧
    (∃ f : OutFrame, f.origin = .beacon true ∧
      f.frame = { kind := 1, source := s.ownAddress, destination := 255, seq := s.mode.seq,
                  payload := beaconPayload t } ∧
      t.link = { Link.reset with
        awaitIdle := true, inProgress := some { out := f, phase := .waiting, attempts := 0 },
        waitPages := t.link.waitPages } ∧
      (announces → t.link.waitPages = s.announcement) ∧ (¬announces → t.link.waitPages = [])) ∧
    ∃ u : State, t.chans = (settle u).chans ∧ t.units = (settle u).units ∧ t.svcs = (settle u).svcs ∧
      t.provs = (settle u).provs ∧ u.mode.station = some .listenIn ∧ u.peers = PeerTable.reset ∧
      u.config = s.config ∧ u.lines = s.lines ∧
      (∀ v : SvcId, u.svcs[v] = SvcBalance.clear) ∧
      ∀ i : LpId, u.provs[i] = ProvBalance.clear ∧
        (s.inUse i = false → u.chans[i] = s.chans[i] ∧ u.units[i] = s.units[i]) ∧
        (s.inUse i = true → u.chans[i] = (restoreChan s i).chans[i] ∧
          u.units[i] = { ActUnit.cleared with
            loaded := s.units[i].loaded, coasting := decide (u.chans[i].state = .coasting) })) ∧
  (∀ (seq : Byte) (s : State), s.receiving = true → s.station.address.isSome = true →
    s.mode.station = some .passive →
    ∃ t, exec (.restart seq) s = .next t ∧
      t.loader = { s.loader with phase := .header, failures := 0, warm := true, replySeq := some seq } ∧
      t.peers = PeerTable.reset ∧ t.link = { Link.reset with awaitIdle := true } ∧ t.faults = s.faults ∧
      t.round = { Round.reset with nextSerial := s.round.nextSerial } ∧
      t.chans = s.chans ∧ t.units = s.units ∧ t.lines = s.lines ∧ t.config = s.config ∧ t.station = s.station ∧
      t.mode = { s.mode with isolated := false, listenIn := .off, beaconT := .off }) ∧
  (∀ (c : Instr) (seq : Byte) (s t : State), isLoaderCommand c = true → c ≠ .powerOn →
    s.loader.phase ≠ .done → s.loader.replySeq = some seq → exec c s = .next t →
    (t.loader.phase ≠ .done → t.loader.replySeq = some seq) ∧
    (t.loader.phase = .done → t.loader.replySeq = none ∧
      (t.station.address = none → t.link = s.link) ∧
      ∀ a, t.station.address = some a → ∃ r : OutFrame, r.origin = .reply ∧
        r.frame = { kind := 10, source := a, destination := 0, seq := seq, payload := [9, 7, 2] } ∧
        (t.link.waitReply = some r ∨ t.link.inProgress.map Sending.out = some r))) ∧
  (∀ (s : State) (i : LpId), s.inUse i = true → let t := restoreChan s i
    let st := match s.chans[i].state with
      | .running | .idleWatch | .stopPending => .running
      | .startPending => .stopped
      | .manual => if s.handPresent i then .manual
        else if s.chans[i].lockout = .none then .running else .lockout
      | st => st
    t.chans[i] = { Chan.powerOn st s.chans[i].retry with
      recalls := s.chans[i].recalls
      autoOff := s.chans[i].autoOff
      lockout := s.chans[i].lockout
      stopT := if st = .stopRequested then .running
          ((if (s.block i).control = 0 then (s.block i).grantTimeout.toNat else (s.block i).feedbackTimeout.toNat) *
            1000000)
        else .off
      coastT := if st = .coasting then .running ((s.block i).coastLimit.toNat * 1000000) else .off
      settleT := if st = .starting ∧ s.runPresent i = true then
          .running ((s.block i).startSettle.toNat * 1000000) else .off
      startT := if st = .starting ∧ s.runPresent i = false then
          .running ((s.block i).startTimeout.toNat * 1000000) else .off
      watch := if s.chans[i].lockout = .hard ∨ s.lines[i].stoprb = none ∨
          s.lines[i].stoprb = some st.stopAsserted then .off else .running 200000 } ∧
    t.units[i].coasting = decide (st = .coasting) ∧ t.units[i].runCount = 0 ∧ t.units[i].armed = false ∧
    ∀ j, j ≠ i → t.chans[j] = s.chans[j])

/-! ### Invariants that every step keeps -/

/-- Every step keeps the peer table: at most 32 entries, in ascending order of address, never two for one address. -/
def Obligations.EveryStepKeepsThePeerTable : Prop :=
  ∀ s t : State, s.peers.Wf → step s = .next t → t.peers.Wf

/-- Every step keeps the round record: a list of at most 24 entries, no two for one station address and load point,
one queued entry per load point, the queue in order of level descending and then load point ascending with a serial of
its own for each entry (the model's field, log entry 27), and a CLOSED round that holds nothing. -/
def Obligations.EveryStepKeepsTheRound : Prop :=
  ∀ s t : State, s.RoundPairs → step s = .next t → t.RoundPairs

/-- Every step keeps the channels: a timer or mark outside the states it is held for is off, and the unit is armed in
IDLE_WATCH and coasting in COASTING only. And every step keeps a follower's stop request under its leader's. -/
def Obligations.EveryStepKeepsTheChannels : Prop :=
  (∀ s t : State, s.ChannelsWf → step s = .next t → t.ChannelsWf) ∧
  (∀ s t : State, s.FollowersHeld → step s = .next t → t.FollowersHeld)

/-- Every step keeps unused channels at their power-on values (retry count 0 is the model's, log entry 25), and the
entry-queued marks in step with the queue. -/
def Obligations.EveryStepKeepsTheQueueMarks : Prop :=
  ∀ s t : State, s.QueueMarks → step s = .next t → t.QueueMarks

/-- Every step keeps the fault records and the link: nothing further in a record that is not valid, saturating counts
in their ranges, and at most seven lost attempts of a frame in progress. And every step keeps the link empty while the
loader reads. -/
def Obligations.EveryStepKeepsRecordsAndCounters : Prop :=
  (∀ s t : State, s.faults.Wf → s.link.Wf → step s = .next t → t.faults.Wf ∧ t.link.Wf) ∧
  (∀ s t : State, s.LoaderHoldsNothing → step s = .next t → t.LoaderHoldsNothing)
end

