-- ==== Sys2Proof/Laws/State.lean ====
section
/-! SUPPORT. What each block update of the state leaves: one lemma per field per update, so that no proof unfolds a
record update. -/

namespace Sys2Proof.Machine

/-! ### withLoader -/

@[simp] theorem State.withLoader_loader (s : State) (x : Loader) : (s.withLoader x).loader = x := rfl
@[simp] theorem State.withLoader_station (s : State) (x : Loader) : (s.withLoader x).station = s.station := rfl
@[simp] theorem State.withLoader_config (s : State) (x : Loader) : (s.withLoader x).config = s.config := rfl
@[simp] theorem State.withLoader_lines (s : State) (x : Loader) : (s.withLoader x).lines = s.lines := rfl
@[simp] theorem State.withLoader_units (s : State) (x : Loader) : (s.withLoader x).units = s.units := rfl
@[simp] theorem State.withLoader_chans (s : State) (x : Loader) : (s.withLoader x).chans = s.chans := rfl
@[simp] theorem State.withLoader_link (s : State) (x : Loader) : (s.withLoader x).link = s.link := rfl
@[simp] theorem State.withLoader_peers (s : State) (x : Loader) : (s.withLoader x).peers = s.peers := rfl
@[simp] theorem State.withLoader_svcs (s : State) (x : Loader) : (s.withLoader x).svcs = s.svcs := rfl
@[simp] theorem State.withLoader_provs (s : State) (x : Loader) : (s.withLoader x).provs = s.provs := rfl
@[simp] theorem State.withLoader_round (s : State) (x : Loader) : (s.withLoader x).round = s.round := rfl
@[simp] theorem State.withLoader_mode (s : State) (x : Loader) : (s.withLoader x).mode = s.mode := rfl
@[simp] theorem State.withLoader_faults (s : State) (x : Loader) : (s.withLoader x).faults = s.faults := rfl
@[simp] theorem State.withLoader_pending (s : State) (x : Loader) : (s.withLoader x).pending = s.pending := rfl

@[simp] theorem State.withLoader_self (s : State) : s.withLoader s.loader = s := rfl

/-! ### withStation -/

@[simp] theorem State.withStation_loader (s : State) (x : StationFields) : (s.withStation x).loader = s.loader := rfl
@[simp] theorem State.withStation_station (s : State) (x : StationFields) : (s.withStation x).station = x := rfl
@[simp] theorem State.withStation_config (s : State) (x : StationFields) : (s.withStation x).config = s.config := rfl
@[simp] theorem State.withStation_lines (s : State) (x : StationFields) : (s.withStation x).lines = s.lines := rfl
@[simp] theorem State.withStation_units (s : State) (x : StationFields) : (s.withStation x).units = s.units := rfl
@[simp] theorem State.withStation_chans (s : State) (x : StationFields) : (s.withStation x).chans = s.chans := rfl
@[simp] theorem State.withStation_link (s : State) (x : StationFields) : (s.withStation x).link = s.link := rfl
@[simp] theorem State.withStation_peers (s : State) (x : StationFields) : (s.withStation x).peers = s.peers := rfl
@[simp] theorem State.withStation_svcs (s : State) (x : StationFields) : (s.withStation x).svcs = s.svcs := rfl
@[simp] theorem State.withStation_provs (s : State) (x : StationFields) : (s.withStation x).provs = s.provs := rfl
@[simp] theorem State.withStation_round (s : State) (x : StationFields) : (s.withStation x).round = s.round := rfl
@[simp] theorem State.withStation_mode (s : State) (x : StationFields) : (s.withStation x).mode = s.mode := rfl
@[simp] theorem State.withStation_faults (s : State) (x : StationFields) : (s.withStation x).faults = s.faults := rfl
@[simp] theorem State.withStation_pending (s : State) (x : StationFields) : (s.withStation x).pending = s.pending := rfl

@[simp] theorem State.withStation_self (s : State) : s.withStation s.station = s := rfl

/-! ### withConfig -/

@[simp] theorem State.withConfig_loader (s : State) (x : Option Configuration) : (s.withConfig x).loader = s.loader := rfl
@[simp] theorem State.withConfig_station (s : State) (x : Option Configuration) : (s.withConfig x).station = s.station := rfl
@[simp] theorem State.withConfig_config (s : State) (x : Option Configuration) : (s.withConfig x).config = x := rfl
@[simp] theorem State.withConfig_lines (s : State) (x : Option Configuration) : (s.withConfig x).lines = s.lines := rfl
@[simp] theorem State.withConfig_units (s : State) (x : Option Configuration) : (s.withConfig x).units = s.units := rfl
@[simp] theorem State.withConfig_chans (s : State) (x : Option Configuration) : (s.withConfig x).chans = s.chans := rfl
@[simp] theorem State.withConfig_link (s : State) (x : Option Configuration) : (s.withConfig x).link = s.link := rfl
@[simp] theorem State.withConfig_peers (s : State) (x : Option Configuration) : (s.withConfig x).peers = s.peers := rfl
@[simp] theorem State.withConfig_svcs (s : State) (x : Option Configuration) : (s.withConfig x).svcs = s.svcs := rfl
@[simp] theorem State.withConfig_provs (s : State) (x : Option Configuration) : (s.withConfig x).provs = s.provs := rfl
@[simp] theorem State.withConfig_round (s : State) (x : Option Configuration) : (s.withConfig x).round = s.round := rfl
@[simp] theorem State.withConfig_mode (s : State) (x : Option Configuration) : (s.withConfig x).mode = s.mode := rfl
@[simp] theorem State.withConfig_faults (s : State) (x : Option Configuration) : (s.withConfig x).faults = s.faults := rfl
@[simp] theorem State.withConfig_pending (s : State) (x : Option Configuration) : (s.withConfig x).pending = s.pending := rfl

@[simp] theorem State.withConfig_self (s : State) : s.withConfig s.config = s := rfl

/-! ### withLines -/

@[simp] theorem State.withLines_loader (s : State) (x : Vector Lines 8) : (s.withLines x).loader = s.loader := rfl
@[simp] theorem State.withLines_station (s : State) (x : Vector Lines 8) : (s.withLines x).station = s.station := rfl
@[simp] theorem State.withLines_config (s : State) (x : Vector Lines 8) : (s.withLines x).config = s.config := rfl
@[simp] theorem State.withLines_lines (s : State) (x : Vector Lines 8) : (s.withLines x).lines = x := rfl
@[simp] theorem State.withLines_units (s : State) (x : Vector Lines 8) : (s.withLines x).units = s.units := rfl
@[simp] theorem State.withLines_chans (s : State) (x : Vector Lines 8) : (s.withLines x).chans = s.chans := rfl
@[simp] theorem State.withLines_link (s : State) (x : Vector Lines 8) : (s.withLines x).link = s.link := rfl
@[simp] theorem State.withLines_peers (s : State) (x : Vector Lines 8) : (s.withLines x).peers = s.peers := rfl
@[simp] theorem State.withLines_svcs (s : State) (x : Vector Lines 8) : (s.withLines x).svcs = s.svcs := rfl
@[simp] theorem State.withLines_provs (s : State) (x : Vector Lines 8) : (s.withLines x).provs = s.provs := rfl
@[simp] theorem State.withLines_round (s : State) (x : Vector Lines 8) : (s.withLines x).round = s.round := rfl
@[simp] theorem State.withLines_mode (s : State) (x : Vector Lines 8) : (s.withLines x).mode = s.mode := rfl
@[simp] theorem State.withLines_faults (s : State) (x : Vector Lines 8) : (s.withLines x).faults = s.faults := rfl
@[simp] theorem State.withLines_pending (s : State) (x : Vector Lines 8) : (s.withLines x).pending = s.pending := rfl

@[simp] theorem State.withLines_self (s : State) : s.withLines s.lines = s := rfl

/-! ### withUnits -/

@[simp] theorem State.withUnits_loader (s : State) (x : Vector ActUnit 8) : (s.withUnits x).loader = s.loader := rfl
@[simp] theorem State.withUnits_station (s : State) (x : Vector ActUnit 8) : (s.withUnits x).station = s.station := rfl
@[simp] theorem State.withUnits_config (s : State) (x : Vector ActUnit 8) : (s.withUnits x).config = s.config := rfl
@[simp] theorem State.withUnits_lines (s : State) (x : Vector ActUnit 8) : (s.withUnits x).lines = s.lines := rfl
@[simp] theorem State.withUnits_units (s : State) (x : Vector ActUnit 8) : (s.withUnits x).units = x := rfl
@[simp] theorem State.withUnits_chans (s : State) (x : Vector ActUnit 8) : (s.withUnits x).chans = s.chans := rfl
@[simp] theorem State.withUnits_link (s : State) (x : Vector ActUnit 8) : (s.withUnits x).link = s.link := rfl
@[simp] theorem State.withUnits_peers (s : State) (x : Vector ActUnit 8) : (s.withUnits x).peers = s.peers := rfl
@[simp] theorem State.withUnits_svcs (s : State) (x : Vector ActUnit 8) : (s.withUnits x).svcs = s.svcs := rfl
@[simp] theorem State.withUnits_provs (s : State) (x : Vector ActUnit 8) : (s.withUnits x).provs = s.provs := rfl
@[simp] theorem State.withUnits_round (s : State) (x : Vector ActUnit 8) : (s.withUnits x).round = s.round := rfl
@[simp] theorem State.withUnits_mode (s : State) (x : Vector ActUnit 8) : (s.withUnits x).mode = s.mode := rfl
@[simp] theorem State.withUnits_faults (s : State) (x : Vector ActUnit 8) : (s.withUnits x).faults = s.faults := rfl
@[simp] theorem State.withUnits_pending (s : State) (x : Vector ActUnit 8) : (s.withUnits x).pending = s.pending := rfl

@[simp] theorem State.withUnits_self (s : State) : s.withUnits s.units = s := rfl

/-! ### withChans -/

@[simp] theorem State.withChans_loader (s : State) (x : Vector Chan 8) : (s.withChans x).loader = s.loader := rfl
@[simp] theorem State.withChans_station (s : State) (x : Vector Chan 8) : (s.withChans x).station = s.station := rfl
@[simp] theorem State.withChans_config (s : State) (x : Vector Chan 8) : (s.withChans x).config = s.config := rfl
@[simp] theorem State.withChans_lines (s : State) (x : Vector Chan 8) : (s.withChans x).lines = s.lines := rfl
@[simp] theorem State.withChans_units (s : State) (x : Vector Chan 8) : (s.withChans x).units = s.units := rfl
@[simp] theorem State.withChans_chans (s : State) (x : Vector Chan 8) : (s.withChans x).chans = x := rfl
@[simp] theorem State.withChans_link (s : State) (x : Vector Chan 8) : (s.withChans x).link = s.link := rfl
@[simp] theorem State.withChans_peers (s : State) (x : Vector Chan 8) : (s.withChans x).peers = s.peers := rfl
@[simp] theorem State.withChans_svcs (s : State) (x : Vector Chan 8) : (s.withChans x).svcs = s.svcs := rfl
@[simp] theorem State.withChans_provs (s : State) (x : Vector Chan 8) : (s.withChans x).provs = s.provs := rfl
@[simp] theorem State.withChans_round (s : State) (x : Vector Chan 8) : (s.withChans x).round = s.round := rfl
@[simp] theorem State.withChans_mode (s : State) (x : Vector Chan 8) : (s.withChans x).mode = s.mode := rfl
@[simp] theorem State.withChans_faults (s : State) (x : Vector Chan 8) : (s.withChans x).faults = s.faults := rfl
@[simp] theorem State.withChans_pending (s : State) (x : Vector Chan 8) : (s.withChans x).pending = s.pending := rfl

@[simp] theorem State.withChans_self (s : State) : s.withChans s.chans = s := rfl

/-! ### withLink -/

@[simp] theorem State.withLink_loader (s : State) (x : Link) : (s.withLink x).loader = s.loader := rfl
@[simp] theorem State.withLink_station (s : State) (x : Link) : (s.withLink x).station = s.station := rfl
@[simp] theorem State.withLink_config (s : State) (x : Link) : (s.withLink x).config = s.config := rfl
@[simp] theorem State.withLink_lines (s : State) (x : Link) : (s.withLink x).lines = s.lines := rfl
@[simp] theorem State.withLink_units (s : State) (x : Link) : (s.withLink x).units = s.units := rfl
@[simp] theorem State.withLink_chans (s : State) (x : Link) : (s.withLink x).chans = s.chans := rfl
@[simp] theorem State.withLink_link (s : State) (x : Link) : (s.withLink x).link = x := rfl
@[simp] theorem State.withLink_peers (s : State) (x : Link) : (s.withLink x).peers = s.peers := rfl
@[simp] theorem State.withLink_svcs (s : State) (x : Link) : (s.withLink x).svcs = s.svcs := rfl
@[simp] theorem State.withLink_provs (s : State) (x : Link) : (s.withLink x).provs = s.provs := rfl
@[simp] theorem State.withLink_round (s : State) (x : Link) : (s.withLink x).round = s.round := rfl
@[simp] theorem State.withLink_mode (s : State) (x : Link) : (s.withLink x).mode = s.mode := rfl
@[simp] theorem State.withLink_faults (s : State) (x : Link) : (s.withLink x).faults = s.faults := rfl
@[simp] theorem State.withLink_pending (s : State) (x : Link) : (s.withLink x).pending = s.pending := rfl

@[simp] theorem State.withLink_self (s : State) : s.withLink s.link = s := rfl

/-! ### withPeers -/

@[simp] theorem State.withPeers_loader (s : State) (x : PeerTable) : (s.withPeers x).loader = s.loader := rfl
@[simp] theorem State.withPeers_station (s : State) (x : PeerTable) : (s.withPeers x).station = s.station := rfl
@[simp] theorem State.withPeers_config (s : State) (x : PeerTable) : (s.withPeers x).config = s.config := rfl
@[simp] theorem State.withPeers_lines (s : State) (x : PeerTable) : (s.withPeers x).lines = s.lines := rfl
@[simp] theorem State.withPeers_units (s : State) (x : PeerTable) : (s.withPeers x).units = s.units := rfl
@[simp] theorem State.withPeers_chans (s : State) (x : PeerTable) : (s.withPeers x).chans = s.chans := rfl
@[simp] theorem State.withPeers_link (s : State) (x : PeerTable) : (s.withPeers x).link = s.link := rfl
@[simp] theorem State.withPeers_peers (s : State) (x : PeerTable) : (s.withPeers x).peers = x := rfl
@[simp] theorem State.withPeers_svcs (s : State) (x : PeerTable) : (s.withPeers x).svcs = s.svcs := rfl
@[simp] theorem State.withPeers_provs (s : State) (x : PeerTable) : (s.withPeers x).provs = s.provs := rfl
@[simp] theorem State.withPeers_round (s : State) (x : PeerTable) : (s.withPeers x).round = s.round := rfl
@[simp] theorem State.withPeers_mode (s : State) (x : PeerTable) : (s.withPeers x).mode = s.mode := rfl
@[simp] theorem State.withPeers_faults (s : State) (x : PeerTable) : (s.withPeers x).faults = s.faults := rfl
@[simp] theorem State.withPeers_pending (s : State) (x : PeerTable) : (s.withPeers x).pending = s.pending := rfl

@[simp] theorem State.withPeers_self (s : State) : s.withPeers s.peers = s := rfl

/-! ### withSvcs -/

@[simp] theorem State.withSvcs_loader (s : State) (x : Vector SvcBalance 12) : (s.withSvcs x).loader = s.loader := rfl
@[simp] theorem State.withSvcs_station (s : State) (x : Vector SvcBalance 12) : (s.withSvcs x).station = s.station := rfl
@[simp] theorem State.withSvcs_config (s : State) (x : Vector SvcBalance 12) : (s.withSvcs x).config = s.config := rfl
@[simp] theorem State.withSvcs_lines (s : State) (x : Vector SvcBalance 12) : (s.withSvcs x).lines = s.lines := rfl
@[simp] theorem State.withSvcs_units (s : State) (x : Vector SvcBalance 12) : (s.withSvcs x).units = s.units := rfl
@[simp] theorem State.withSvcs_chans (s : State) (x : Vector SvcBalance 12) : (s.withSvcs x).chans = s.chans := rfl
@[simp] theorem State.withSvcs_link (s : State) (x : Vector SvcBalance 12) : (s.withSvcs x).link = s.link := rfl
@[simp] theorem State.withSvcs_peers (s : State) (x : Vector SvcBalance 12) : (s.withSvcs x).peers = s.peers := rfl
@[simp] theorem State.withSvcs_svcs (s : State) (x : Vector SvcBalance 12) : (s.withSvcs x).svcs = x := rfl
@[simp] theorem State.withSvcs_provs (s : State) (x : Vector SvcBalance 12) : (s.withSvcs x).provs = s.provs := rfl
@[simp] theorem State.withSvcs_round (s : State) (x : Vector SvcBalance 12) : (s.withSvcs x).round = s.round := rfl
@[simp] theorem State.withSvcs_mode (s : State) (x : Vector SvcBalance 12) : (s.withSvcs x).mode = s.mode := rfl
@[simp] theorem State.withSvcs_faults (s : State) (x : Vector SvcBalance 12) : (s.withSvcs x).faults = s.faults := rfl
@[simp] theorem State.withSvcs_pending (s : State) (x : Vector SvcBalance 12) : (s.withSvcs x).pending = s.pending := rfl

@[simp] theorem State.withSvcs_self (s : State) : s.withSvcs s.svcs = s := rfl

/-! ### withProvs -/

@[simp] theorem State.withProvs_loader (s : State) (x : Vector ProvBalance 8) : (s.withProvs x).loader = s.loader := rfl
@[simp] theorem State.withProvs_station (s : State) (x : Vector ProvBalance 8) : (s.withProvs x).station = s.station := rfl
@[simp] theorem State.withProvs_config (s : State) (x : Vector ProvBalance 8) : (s.withProvs x).config = s.config := rfl
@[simp] theorem State.withProvs_lines (s : State) (x : Vector ProvBalance 8) : (s.withProvs x).lines = s.lines := rfl
@[simp] theorem State.withProvs_units (s : State) (x : Vector ProvBalance 8) : (s.withProvs x).units = s.units := rfl
@[simp] theorem State.withProvs_chans (s : State) (x : Vector ProvBalance 8) : (s.withProvs x).chans = s.chans := rfl
@[simp] theorem State.withProvs_link (s : State) (x : Vector ProvBalance 8) : (s.withProvs x).link = s.link := rfl
@[simp] theorem State.withProvs_peers (s : State) (x : Vector ProvBalance 8) : (s.withProvs x).peers = s.peers := rfl
@[simp] theorem State.withProvs_svcs (s : State) (x : Vector ProvBalance 8) : (s.withProvs x).svcs = s.svcs := rfl
@[simp] theorem State.withProvs_provs (s : State) (x : Vector ProvBalance 8) : (s.withProvs x).provs = x := rfl
@[simp] theorem State.withProvs_round (s : State) (x : Vector ProvBalance 8) : (s.withProvs x).round = s.round := rfl
@[simp] theorem State.withProvs_mode (s : State) (x : Vector ProvBalance 8) : (s.withProvs x).mode = s.mode := rfl
@[simp] theorem State.withProvs_faults (s : State) (x : Vector ProvBalance 8) : (s.withProvs x).faults = s.faults := rfl
@[simp] theorem State.withProvs_pending (s : State) (x : Vector ProvBalance 8) : (s.withProvs x).pending = s.pending := rfl

@[simp] theorem State.withProvs_self (s : State) : s.withProvs s.provs = s := rfl

/-! ### withRound -/

@[simp] theorem State.withRound_loader (s : State) (x : Round) : (s.withRound x).loader = s.loader := rfl
@[simp] theorem State.withRound_station (s : State) (x : Round) : (s.withRound x).station = s.station := rfl
@[simp] theorem State.withRound_config (s : State) (x : Round) : (s.withRound x).config = s.config := rfl
@[simp] theorem State.withRound_lines (s : State) (x : Round) : (s.withRound x).lines = s.lines := rfl
@[simp] theorem State.withRound_units (s : State) (x : Round) : (s.withRound x).units = s.units := rfl
@[simp] theorem State.withRound_chans (s : State) (x : Round) : (s.withRound x).chans = s.chans := rfl
@[simp] theorem State.withRound_link (s : State) (x : Round) : (s.withRound x).link = s.link := rfl
@[simp] theorem State.withRound_peers (s : State) (x : Round) : (s.withRound x).peers = s.peers := rfl
@[simp] theorem State.withRound_svcs (s : State) (x : Round) : (s.withRound x).svcs = s.svcs := rfl
@[simp] theorem State.withRound_provs (s : State) (x : Round) : (s.withRound x).provs = s.provs := rfl
@[simp] theorem State.withRound_round (s : State) (x : Round) : (s.withRound x).round = x := rfl
@[simp] theorem State.withRound_mode (s : State) (x : Round) : (s.withRound x).mode = s.mode := rfl
@[simp] theorem State.withRound_faults (s : State) (x : Round) : (s.withRound x).faults = s.faults := rfl
@[simp] theorem State.withRound_pending (s : State) (x : Round) : (s.withRound x).pending = s.pending := rfl

@[simp] theorem State.withRound_self (s : State) : s.withRound s.round = s := rfl

/-! ### withMode -/

@[simp] theorem State.withMode_loader (s : State) (x : ModeCtl) : (s.withMode x).loader = s.loader := rfl
@[simp] theorem State.withMode_station (s : State) (x : ModeCtl) : (s.withMode x).station = s.station := rfl
@[simp] theorem State.withMode_config (s : State) (x : ModeCtl) : (s.withMode x).config = s.config := rfl
@[simp] theorem State.withMode_lines (s : State) (x : ModeCtl) : (s.withMode x).lines = s.lines := rfl
@[simp] theorem State.withMode_units (s : State) (x : ModeCtl) : (s.withMode x).units = s.units := rfl
@[simp] theorem State.withMode_chans (s : State) (x : ModeCtl) : (s.withMode x).chans = s.chans := rfl
@[simp] theorem State.withMode_link (s : State) (x : ModeCtl) : (s.withMode x).link = s.link := rfl
@[simp] theorem State.withMode_peers (s : State) (x : ModeCtl) : (s.withMode x).peers = s.peers := rfl
@[simp] theorem State.withMode_svcs (s : State) (x : ModeCtl) : (s.withMode x).svcs = s.svcs := rfl
@[simp] theorem State.withMode_provs (s : State) (x : ModeCtl) : (s.withMode x).provs = s.provs := rfl
@[simp] theorem State.withMode_round (s : State) (x : ModeCtl) : (s.withMode x).round = s.round := rfl
@[simp] theorem State.withMode_mode (s : State) (x : ModeCtl) : (s.withMode x).mode = x := rfl
@[simp] theorem State.withMode_faults (s : State) (x : ModeCtl) : (s.withMode x).faults = s.faults := rfl
@[simp] theorem State.withMode_pending (s : State) (x : ModeCtl) : (s.withMode x).pending = s.pending := rfl

@[simp] theorem State.withMode_self (s : State) : s.withMode s.mode = s := rfl

/-! ### withFaults -/

@[simp] theorem State.withFaults_loader (s : State) (x : FaultUnit) : (s.withFaults x).loader = s.loader := rfl
@[simp] theorem State.withFaults_station (s : State) (x : FaultUnit) : (s.withFaults x).station = s.station := rfl
@[simp] theorem State.withFaults_config (s : State) (x : FaultUnit) : (s.withFaults x).config = s.config := rfl
@[simp] theorem State.withFaults_lines (s : State) (x : FaultUnit) : (s.withFaults x).lines = s.lines := rfl
@[simp] theorem State.withFaults_units (s : State) (x : FaultUnit) : (s.withFaults x).units = s.units := rfl
@[simp] theorem State.withFaults_chans (s : State) (x : FaultUnit) : (s.withFaults x).chans = s.chans := rfl
@[simp] theorem State.withFaults_link (s : State) (x : FaultUnit) : (s.withFaults x).link = s.link := rfl
@[simp] theorem State.withFaults_peers (s : State) (x : FaultUnit) : (s.withFaults x).peers = s.peers := rfl
@[simp] theorem State.withFaults_svcs (s : State) (x : FaultUnit) : (s.withFaults x).svcs = s.svcs := rfl
@[simp] theorem State.withFaults_provs (s : State) (x : FaultUnit) : (s.withFaults x).provs = s.provs := rfl
@[simp] theorem State.withFaults_round (s : State) (x : FaultUnit) : (s.withFaults x).round = s.round := rfl
@[simp] theorem State.withFaults_mode (s : State) (x : FaultUnit) : (s.withFaults x).mode = s.mode := rfl
@[simp] theorem State.withFaults_faults (s : State) (x : FaultUnit) : (s.withFaults x).faults = x := rfl
@[simp] theorem State.withFaults_pending (s : State) (x : FaultUnit) : (s.withFaults x).pending = s.pending := rfl

@[simp] theorem State.withFaults_self (s : State) : s.withFaults s.faults = s := rfl

/-! ### withPending -/

@[simp] theorem State.withPending_loader (s : State) (x : List Instr) : (s.withPending x).loader = s.loader := rfl
@[simp] theorem State.withPending_station (s : State) (x : List Instr) : (s.withPending x).station = s.station := rfl
@[simp] theorem State.withPending_config (s : State) (x : List Instr) : (s.withPending x).config = s.config := rfl
@[simp] theorem State.withPending_lines (s : State) (x : List Instr) : (s.withPending x).lines = s.lines := rfl
@[simp] theorem State.withPending_units (s : State) (x : List Instr) : (s.withPending x).units = s.units := rfl
@[simp] theorem State.withPending_chans (s : State) (x : List Instr) : (s.withPending x).chans = s.chans := rfl
@[simp] theorem State.withPending_link (s : State) (x : List Instr) : (s.withPending x).link = s.link := rfl
@[simp] theorem State.withPending_peers (s : State) (x : List Instr) : (s.withPending x).peers = s.peers := rfl
@[simp] theorem State.withPending_svcs (s : State) (x : List Instr) : (s.withPending x).svcs = s.svcs := rfl
@[simp] theorem State.withPending_provs (s : State) (x : List Instr) : (s.withPending x).provs = s.provs := rfl
@[simp] theorem State.withPending_round (s : State) (x : List Instr) : (s.withPending x).round = s.round := rfl
@[simp] theorem State.withPending_mode (s : State) (x : List Instr) : (s.withPending x).mode = s.mode := rfl
@[simp] theorem State.withPending_faults (s : State) (x : List Instr) : (s.withPending x).faults = s.faults := rfl
@[simp] theorem State.withPending_pending (s : State) (x : List Instr) : (s.withPending x).pending = x := rfl

@[simp] theorem State.withPending_self (s : State) : s.withPending s.pending = s := rfl

/-! ### The later update of a block is the one that counts -/

@[simp] theorem State.withLoader_withLoader (s : State) (x y : Loader) : (s.withLoader x).withLoader y = s.withLoader y := rfl
@[simp] theorem State.withStation_withStation (s : State) (x y : StationFields) : (s.withStation x).withStation y = s.withStation y := rfl
@[simp] theorem State.withConfig_withConfig (s : State) (x y : Option Configuration) : (s.withConfig x).withConfig y = s.withConfig y := rfl
@[simp] theorem State.withLines_withLines (s : State) (x y : Vector Lines 8) : (s.withLines x).withLines y = s.withLines y := rfl
@[simp] theorem State.withUnits_withUnits (s : State) (x y : Vector ActUnit 8) : (s.withUnits x).withUnits y = s.withUnits y := rfl
@[simp] theorem State.withChans_withChans (s : State) (x y : Vector Chan 8) : (s.withChans x).withChans y = s.withChans y := rfl
@[simp] theorem State.withLink_withLink (s : State) (x y : Link) : (s.withLink x).withLink y = s.withLink y := rfl
@[simp] theorem State.withPeers_withPeers (s : State) (x y : PeerTable) : (s.withPeers x).withPeers y = s.withPeers y := rfl
@[simp] theorem State.withSvcs_withSvcs (s : State) (x y : Vector SvcBalance 12) : (s.withSvcs x).withSvcs y = s.withSvcs y := rfl
@[simp] theorem State.withProvs_withProvs (s : State) (x y : Vector ProvBalance 8) : (s.withProvs x).withProvs y = s.withProvs y := rfl
@[simp] theorem State.withRound_withRound (s : State) (x y : Round) : (s.withRound x).withRound y = s.withRound y := rfl
@[simp] theorem State.withMode_withMode (s : State) (x y : ModeCtl) : (s.withMode x).withMode y = s.withMode y := rfl
@[simp] theorem State.withFaults_withFaults (s : State) (x y : FaultUnit) : (s.withFaults x).withFaults y = s.withFaults y := rfl
@[simp] theorem State.withPending_withPending (s : State) (x y : List Instr) : (s.withPending x).withPending y = s.withPending y := rfl

end Sys2Proof.Machine
end

