-- ==== Sys2Proof/Laws/Link.lean ====
section
/-! SUPPORT. What taking the next frame leaves of the link controller, and which blocks the link's shared operations can
touch. -/

namespace Sys2Proof.Machine

variable (l : Link) (s : State)

/-! ### Taking the next frame (R72, R73) -/

/-- With a frame in progress none is taken. -/
theorem takeNext_of_inProgress {t : Sending} (h : l.inProgress = some t) : l.takeNext = l := by
  simp [Link.takeNext, h]

@[simp] theorem takeNext_abandonRun : l.takeNext.abandonRun = l.abandonRun := by
  unfold Link.takeNext; split
  · rfl
  · split <;> rfl

@[simp] theorem takeNext_silence : l.takeNext.silence = l.silence := by
  unfold Link.takeNext; split
  · rfl
  · split <;> rfl

@[simp] theorem takeNext_heard : l.takeNext.heard = l.heard := by
  unfold Link.takeNext; split
  · rfl
  · split <;> rfl

@[simp] theorem takeNext_latch : l.takeNext.latch = l.latch := by
  unfold Link.takeNext; split
  · rfl
  · split <;> rfl

@[simp] theorem takeNext_counters : l.takeNext.counters = l.counters := by
  unfold Link.takeNext; split
  · rfl
  · split <;> rfl

@[simp] theorem takeNext_awaitIdle : l.takeNext.awaitIdle = l.awaitIdle := by
  unfold Link.takeNext; split
  · rfl
  · split <;> rfl

@[simp] theorem takeNext_collecting : l.takeNext.collecting = l.collecting := by
  unfold Link.takeNext; split
  · rfl
  · split <;> rfl

/-- A frame just taken has lost no attempt, and its first attempt starts at once on an idle line. -/
theorem takeNext_fresh (h : l.inProgress = none) {t : Sending} (ht : l.takeNext.inProgress = some t) :
    t.attempts = 0 ∧ t.phase = if l.lineIdle then .sending else .waiting := by
  unfold Link.takeNext at ht
  simp only [h, Option.isSome_none, Bool.false_eq_true, ↓reduceIte] at ht
  split at ht <;> first
    | (simp only [Link.begin, Option.some.injEq] at ht; subst ht; exact ⟨rfl, rfl⟩)
    | (rw [h] at ht; cases ht)

/-! ### A lost attempt (R74, R75) -/

@[simp] theorem lost_lineIdle (x : Loss) : (l.lost x).lineIdle = leavesIdle x := rfl
@[simp] theorem lost_collecting (x : Loss) : (l.lost x).collecting = (l.collecting || !leavesIdle x) := rfl
@[simp] theorem lost_inProgress (x : Loss) : (l.lost x).inProgress = l.inProgress := rfl
@[simp] theorem lost_pagesLeft (x : Loss) : (l.lost x).pagesLeft = l.pagesLeft := rfl
@[simp] theorem lost_abandonRun (x : Loss) : (l.lost x).abandonRun = l.abandonRun := rfl
@[simp] theorem lost_counters (x : Loss) : (l.lost x).counters =
    { l.counters with lostContentions := countUp l.counters.lostContentions } := rfl

@[simp] theorem phaseAfterLoss_toSender (n : Nat) : phaseAfterLoss .toSender n = .lostAwaitingEnd n := rfl
@[simp] theorem phaseAfterLoss_startUndriven (n : Nat) : phaseAfterLoss .startUndriven n =
    if n = 0 then .sending else .backingOff (.running (n * 1024)) := by
  cases n <;> rfl
@[simp] theorem phaseAfterLoss_laterUndriven (n : Nat) : phaseAfterLoss .laterUndriven n =
    if n = 0 then .waiting else .backingOff (.running (n * 1024)) := by
  cases n <;> rfl

/-! ### A frame on the line (R67, R77) -/

/-- A frame of another sender, begun, ended whole or missed, changes the link alone. -/
theorem otherStarts_eq : otherStarts s = s.withLink (otherStarts s).link := rfl
theorem frameEnd_eq : frameEnd s = s.withLink (frameEnd s).link := rfl
theorem frameMissed_eq : frameMissed s = s.withLink { s.link with lineIdle := false, collecting := false } := rfl

@[simp] theorem otherStarts_inProgress : (otherStarts s).link.inProgress = s.link.inProgress := rfl
@[simp] theorem otherStarts_counters : (otherStarts s).link.counters = s.link.counters := rfl
@[simp] theorem frameEnd_counters : (frameEnd s).link.counters = s.link.counters := rfl
@[simp] theorem frameEnd_heard : (frameEnd s).link.heard = s.link.heard := rfl
@[simp] theorem frameEnd_silence : (frameEnd s).link.silence = s.link.silence := rfl
@[simp] theorem frameEnd_waitBeacon : (frameEnd s).link.waitBeacon = s.link.waitBeacon := rfl
@[simp] theorem frameEnd_lineIdle : (frameEnd s).link.lineIdle = false := rfl
@[simp] theorem frameEnd_collecting : (frameEnd s).link.collecting = false := rfl

/-! ### Blocks that the shared operations leave -/

@[simp] theorem announce_loader : (announce s).loader = s.loader := by
  unfold announce; split <;> rfl
@[simp] theorem announce_station : (announce s).station = s.station := by
  unfold announce; split <;> rfl
@[simp] theorem announce_config : (announce s).config = s.config := by
  unfold announce; split <;> rfl
@[simp] theorem announce_lines : (announce s).lines = s.lines := by
  unfold announce; split <;> rfl
@[simp] theorem announce_units : (announce s).units = s.units := by
  unfold announce; split <;> rfl
@[simp] theorem announce_chans : (announce s).chans = s.chans := by
  unfold announce; split <;> rfl
@[simp] theorem announce_peers : (announce s).peers = s.peers := by
  unfold announce; split <;> rfl
@[simp] theorem announce_svcs : (announce s).svcs = s.svcs := by
  unfold announce; split <;> rfl
@[simp] theorem announce_provs : (announce s).provs = s.provs := by
  unfold announce; split <;> rfl
@[simp] theorem announce_round : (announce s).round = s.round := by
  unfold announce; split <;> rfl
@[simp] theorem announce_faults : (announce s).faults = s.faults := by
  unfold announce; split <;> rfl
@[simp] theorem announce_pending : (announce s).pending = s.pending := by
  unfold announce; split <;> rfl

@[simp] theorem beaconOutcome_loader (b : Bool) : (beaconOutcome b s).loader = s.loader := by
  unfold beaconOutcome; split <;> simp
@[simp] theorem beaconOutcome_station (b : Bool) : (beaconOutcome b s).station = s.station := by
  unfold beaconOutcome; split <;> simp
@[simp] theorem beaconOutcome_config (b : Bool) : (beaconOutcome b s).config = s.config := by
  unfold beaconOutcome; split <;> simp
@[simp] theorem beaconOutcome_lines (b : Bool) : (beaconOutcome b s).lines = s.lines := by
  unfold beaconOutcome; split <;> simp
@[simp] theorem beaconOutcome_units (b : Bool) : (beaconOutcome b s).units = s.units := by
  unfold beaconOutcome; split <;> simp
@[simp] theorem beaconOutcome_chans (b : Bool) : (beaconOutcome b s).chans = s.chans := by
  unfold beaconOutcome; split <;> simp
@[simp] theorem beaconOutcome_peers (b : Bool) : (beaconOutcome b s).peers = s.peers := by
  unfold beaconOutcome; split <;> simp
@[simp] theorem beaconOutcome_svcs (b : Bool) : (beaconOutcome b s).svcs = s.svcs := by
  unfold beaconOutcome; split <;> simp
@[simp] theorem beaconOutcome_provs (b : Bool) : (beaconOutcome b s).provs = s.provs := by
  unfold beaconOutcome; split <;> simp
@[simp] theorem beaconOutcome_round (b : Bool) : (beaconOutcome b s).round = s.round := by
  unfold beaconOutcome; split <;> simp
@[simp] theorem beaconOutcome_faults (b : Bool) : (beaconOutcome b s).faults = s.faults := by
  unfold beaconOutcome; split <;> simp
@[simp] theorem beaconOutcome_pending (b : Bool) : (beaconOutcome b s).pending = s.pending := by
  unfold beaconOutcome; split <;> simp

@[simp] theorem handBeacon_loader (b : Bool) : (handBeacon b s).loader = s.loader := by
  unfold handBeacon; dsimp only; split <;> simp
@[simp] theorem handBeacon_station (b : Bool) : (handBeacon b s).station = s.station := by
  unfold handBeacon; dsimp only; split <;> simp
@[simp] theorem handBeacon_config (b : Bool) : (handBeacon b s).config = s.config := by
  unfold handBeacon; dsimp only; split <;> simp
@[simp] theorem handBeacon_lines (b : Bool) : (handBeacon b s).lines = s.lines := by
  unfold handBeacon; dsimp only; split <;> simp
@[simp] theorem handBeacon_units (b : Bool) : (handBeacon b s).units = s.units := by
  unfold handBeacon; dsimp only; split <;> simp
@[simp] theorem handBeacon_chans (b : Bool) : (handBeacon b s).chans = s.chans := by
  unfold handBeacon; dsimp only; split <;> simp
@[simp] theorem handBeacon_peers (b : Bool) : (handBeacon b s).peers = s.peers := by
  unfold handBeacon; dsimp only; split <;> simp
@[simp] theorem handBeacon_svcs (b : Bool) : (handBeacon b s).svcs = s.svcs := by
  unfold handBeacon; dsimp only; split <;> simp
@[simp] theorem handBeacon_provs (b : Bool) : (handBeacon b s).provs = s.provs := by
  unfold handBeacon; dsimp only; split <;> simp
@[simp] theorem handBeacon_round (b : Bool) : (handBeacon b s).round = s.round := by
  unfold handBeacon; dsimp only; split <;> simp
@[simp] theorem handBeacon_faults (b : Bool) : (handBeacon b s).faults = s.faults := by
  unfold handBeacon; dsimp only; split <;> simp
@[simp] theorem handBeacon_pending (b : Bool) : (handBeacon b s).pending = s.pending := by
  unfold handBeacon; dsimp only; split <;> simp

@[simp] theorem handReply_loader (q : Byte) (p : List Byte) : (handReply q p s).loader = s.loader := by
  unfold handReply; split <;> rfl
@[simp] theorem handReply_station (q : Byte) (p : List Byte) : (handReply q p s).station = s.station := by
  unfold handReply; split <;> rfl
@[simp] theorem handReply_config (q : Byte) (p : List Byte) : (handReply q p s).config = s.config := by
  unfold handReply; split <;> rfl
@[simp] theorem handReply_lines (q : Byte) (p : List Byte) : (handReply q p s).lines = s.lines := by
  unfold handReply; split <;> rfl
@[simp] theorem handReply_units (q : Byte) (p : List Byte) : (handReply q p s).units = s.units := by
  unfold handReply; split <;> rfl
@[simp] theorem handReply_chans (q : Byte) (p : List Byte) : (handReply q p s).chans = s.chans := by
  unfold handReply; split <;> rfl
@[simp] theorem handReply_peers (q : Byte) (p : List Byte) : (handReply q p s).peers = s.peers := by
  unfold handReply; split <;> rfl
@[simp] theorem handReply_svcs (q : Byte) (p : List Byte) : (handReply q p s).svcs = s.svcs := by
  unfold handReply; split <;> rfl
@[simp] theorem handReply_provs (q : Byte) (p : List Byte) : (handReply q p s).provs = s.provs := by
  unfold handReply; split <;> rfl
@[simp] theorem handReply_round (q : Byte) (p : List Byte) : (handReply q p s).round = s.round := by
  unfold handReply; split <;> rfl
@[simp] theorem handReply_faults (q : Byte) (p : List Byte) : (handReply q p s).faults = s.faults := by
  unfold handReply; split <;> rfl
@[simp] theorem handReply_pending (q : Byte) (p : List Byte) : (handReply q p s).pending = s.pending := by
  unfold handReply; split <;> rfl
@[simp] theorem handReply_mode (q : Byte) (p : List Byte) : (handReply q p s).mode = s.mode := by
  unfold handReply; split <;> rfl

end Sys2Proof.Machine
end

