-- ==== Sys2Proof/Laws/Config.lean ====
section
/-! SUPPORT. What is read of the configuration in force does not depend on the other blocks: one lemma per accessor per
update. -/

namespace Sys2Proof.Machine

/-! ### withLines -/

@[simp] theorem State.withLines_block (s : State) (x : Vector Lines 8) (i : LpId) :
    (s.withLines x).block i = s.block i := rfl
@[simp] theorem State.withLines_svcBlock (s : State) (x : Vector Lines 8) (v : SvcId) :
    (s.withLines x).svcBlock v = s.svcBlock v := rfl
@[simp] theorem State.withLines_inUse (s : State) (x : Vector Lines 8) (i : LpId) :
    (s.withLines x).inUse i = s.inUse i := rfl
@[simp] theorem State.withLines_svcInUse (s : State) (x : Vector Lines 8) (v : SvcId) :
    (s.withLines x).svcInUse v = s.svcInUse v := rfl
@[simp] theorem State.withLines_leader (s : State) (x : Vector Lines 8) (i : LpId) :
    (s.withLines x).leader i = s.leader i := rfl
@[simp] theorem State.withLines_isFollower (s : State) (x : Vector Lines 8) (i : LpId) :
    (s.withLines x).isFollower i = s.isFollower i := rfl
@[simp] theorem State.withLines_provided (s : State) (x : Vector Lines 8) (i : LpId) :
    (s.withLines x).provided i = s.provided i := rfl
@[simp] theorem State.withLines_isProvider (s : State) (x : Vector Lines 8) (i : LpId) :
    (s.withLines x).isProvider i = s.isProvider i := rfl
@[simp] theorem State.withLines_level (s : State) (x : Vector Lines 8) (i : LpId) :
    (s.withLines x).level i = s.level i := rfl
@[simp] theorem State.withLines_unitMode (s : State) (x : Vector Lines 8) (i : LpId) :
    (s.withLines x).unitMode i = s.unitMode i := rfl
@[simp] theorem State.withLines_reload (s : State) (x : Vector Lines 8) (i : LpId) :
    (s.withLines x).reload i = s.reload i := rfl

/-! ### withUnits -/

@[simp] theorem State.withUnits_block (s : State) (x : Vector ActUnit 8) (i : LpId) :
    (s.withUnits x).block i = s.block i := rfl
@[simp] theorem State.withUnits_svcBlock (s : State) (x : Vector ActUnit 8) (v : SvcId) :
    (s.withUnits x).svcBlock v = s.svcBlock v := rfl
@[simp] theorem State.withUnits_inUse (s : State) (x : Vector ActUnit 8) (i : LpId) :
    (s.withUnits x).inUse i = s.inUse i := rfl
@[simp] theorem State.withUnits_svcInUse (s : State) (x : Vector ActUnit 8) (v : SvcId) :
    (s.withUnits x).svcInUse v = s.svcInUse v := rfl
@[simp] theorem State.withUnits_leader (s : State) (x : Vector ActUnit 8) (i : LpId) :
    (s.withUnits x).leader i = s.leader i := rfl
@[simp] theorem State.withUnits_isFollower (s : State) (x : Vector ActUnit 8) (i : LpId) :
    (s.withUnits x).isFollower i = s.isFollower i := rfl
@[simp] theorem State.withUnits_provided (s : State) (x : Vector ActUnit 8) (i : LpId) :
    (s.withUnits x).provided i = s.provided i := rfl
@[simp] theorem State.withUnits_isProvider (s : State) (x : Vector ActUnit 8) (i : LpId) :
    (s.withUnits x).isProvider i = s.isProvider i := rfl
@[simp] theorem State.withUnits_level (s : State) (x : Vector ActUnit 8) (i : LpId) :
    (s.withUnits x).level i = s.level i := rfl
@[simp] theorem State.withUnits_unitMode (s : State) (x : Vector ActUnit 8) (i : LpId) :
    (s.withUnits x).unitMode i = s.unitMode i := rfl
@[simp] theorem State.withUnits_reload (s : State) (x : Vector ActUnit 8) (i : LpId) :
    (s.withUnits x).reload i = s.reload i := rfl

/-! ### withChans -/

@[simp] theorem State.withChans_block (s : State) (x : Vector Chan 8) (i : LpId) :
    (s.withChans x).block i = s.block i := rfl
@[simp] theorem State.withChans_svcBlock (s : State) (x : Vector Chan 8) (v : SvcId) :
    (s.withChans x).svcBlock v = s.svcBlock v := rfl
@[simp] theorem State.withChans_inUse (s : State) (x : Vector Chan 8) (i : LpId) :
    (s.withChans x).inUse i = s.inUse i := rfl
@[simp] theorem State.withChans_svcInUse (s : State) (x : Vector Chan 8) (v : SvcId) :
    (s.withChans x).svcInUse v = s.svcInUse v := rfl
@[simp] theorem State.withChans_leader (s : State) (x : Vector Chan 8) (i : LpId) :
    (s.withChans x).leader i = s.leader i := rfl
@[simp] theorem State.withChans_isFollower (s : State) (x : Vector Chan 8) (i : LpId) :
    (s.withChans x).isFollower i = s.isFollower i := rfl
@[simp] theorem State.withChans_provided (s : State) (x : Vector Chan 8) (i : LpId) :
    (s.withChans x).provided i = s.provided i := rfl
@[simp] theorem State.withChans_isProvider (s : State) (x : Vector Chan 8) (i : LpId) :
    (s.withChans x).isProvider i = s.isProvider i := rfl
@[simp] theorem State.withChans_level (s : State) (x : Vector Chan 8) (i : LpId) :
    (s.withChans x).level i = s.level i := rfl
@[simp] theorem State.withChans_unitMode (s : State) (x : Vector Chan 8) (i : LpId) :
    (s.withChans x).unitMode i = s.unitMode i := rfl
@[simp] theorem State.withChans_reload (s : State) (x : Vector Chan 8) (i : LpId) :
    (s.withChans x).reload i = s.reload i := rfl

/-! ### withLink -/

@[simp] theorem State.withLink_block (s : State) (x : Link) (i : LpId) :
    (s.withLink x).block i = s.block i := rfl
@[simp] theorem State.withLink_svcBlock (s : State) (x : Link) (v : SvcId) :
    (s.withLink x).svcBlock v = s.svcBlock v := rfl
@[simp] theorem State.withLink_inUse (s : State) (x : Link) (i : LpId) :
    (s.withLink x).inUse i = s.inUse i := rfl
@[simp] theorem State.withLink_svcInUse (s : State) (x : Link) (v : SvcId) :
    (s.withLink x).svcInUse v = s.svcInUse v := rfl
@[simp] theorem State.withLink_leader (s : State) (x : Link) (i : LpId) :
    (s.withLink x).leader i = s.leader i := rfl
@[simp] theorem State.withLink_isFollower (s : State) (x : Link) (i : LpId) :
    (s.withLink x).isFollower i = s.isFollower i := rfl
@[simp] theorem State.withLink_provided (s : State) (x : Link) (i : LpId) :
    (s.withLink x).provided i = s.provided i := rfl
@[simp] theorem State.withLink_isProvider (s : State) (x : Link) (i : LpId) :
    (s.withLink x).isProvider i = s.isProvider i := rfl
@[simp] theorem State.withLink_level (s : State) (x : Link) (i : LpId) :
    (s.withLink x).level i = s.level i := rfl
@[simp] theorem State.withLink_unitMode (s : State) (x : Link) (i : LpId) :
    (s.withLink x).unitMode i = s.unitMode i := rfl
@[simp] theorem State.withLink_reload (s : State) (x : Link) (i : LpId) :
    (s.withLink x).reload i = s.reload i := rfl

/-! ### withPeers -/

@[simp] theorem State.withPeers_block (s : State) (x : PeerTable) (i : LpId) :
    (s.withPeers x).block i = s.block i := rfl
@[simp] theorem State.withPeers_svcBlock (s : State) (x : PeerTable) (v : SvcId) :
    (s.withPeers x).svcBlock v = s.svcBlock v := rfl
@[simp] theorem State.withPeers_inUse (s : State) (x : PeerTable) (i : LpId) :
    (s.withPeers x).inUse i = s.inUse i := rfl
@[simp] theorem State.withPeers_svcInUse (s : State) (x : PeerTable) (v : SvcId) :
    (s.withPeers x).svcInUse v = s.svcInUse v := rfl
@[simp] theorem State.withPeers_leader (s : State) (x : PeerTable) (i : LpId) :
    (s.withPeers x).leader i = s.leader i := rfl
@[simp] theorem State.withPeers_isFollower (s : State) (x : PeerTable) (i : LpId) :
    (s.withPeers x).isFollower i = s.isFollower i := rfl
@[simp] theorem State.withPeers_provided (s : State) (x : PeerTable) (i : LpId) :
    (s.withPeers x).provided i = s.provided i := rfl
@[simp] theorem State.withPeers_isProvider (s : State) (x : PeerTable) (i : LpId) :
    (s.withPeers x).isProvider i = s.isProvider i := rfl
@[simp] theorem State.withPeers_level (s : State) (x : PeerTable) (i : LpId) :
    (s.withPeers x).level i = s.level i := rfl
@[simp] theorem State.withPeers_unitMode (s : State) (x : PeerTable) (i : LpId) :
    (s.withPeers x).unitMode i = s.unitMode i := rfl
@[simp] theorem State.withPeers_reload (s : State) (x : PeerTable) (i : LpId) :
    (s.withPeers x).reload i = s.reload i := rfl

/-! ### withSvcs -/

@[simp] theorem State.withSvcs_block (s : State) (x : Vector SvcBalance 12) (i : LpId) :
    (s.withSvcs x).block i = s.block i := rfl
@[simp] theorem State.withSvcs_svcBlock (s : State) (x : Vector SvcBalance 12) (v : SvcId) :
    (s.withSvcs x).svcBlock v = s.svcBlock v := rfl
@[simp] theorem State.withSvcs_inUse (s : State) (x : Vector SvcBalance 12) (i : LpId) :
    (s.withSvcs x).inUse i = s.inUse i := rfl
@[simp] theorem State.withSvcs_svcInUse (s : State) (x : Vector SvcBalance 12) (v : SvcId) :
    (s.withSvcs x).svcInUse v = s.svcInUse v := rfl
@[simp] theorem State.withSvcs_leader (s : State) (x : Vector SvcBalance 12) (i : LpId) :
    (s.withSvcs x).leader i = s.leader i := rfl
@[simp] theorem State.withSvcs_isFollower (s : State) (x : Vector SvcBalance 12) (i : LpId) :
    (s.withSvcs x).isFollower i = s.isFollower i := rfl
@[simp] theorem State.withSvcs_provided (s : State) (x : Vector SvcBalance 12) (i : LpId) :
    (s.withSvcs x).provided i = s.provided i := rfl
@[simp] theorem State.withSvcs_isProvider (s : State) (x : Vector SvcBalance 12) (i : LpId) :
    (s.withSvcs x).isProvider i = s.isProvider i := rfl
@[simp] theorem State.withSvcs_level (s : State) (x : Vector SvcBalance 12) (i : LpId) :
    (s.withSvcs x).level i = s.level i := rfl
@[simp] theorem State.withSvcs_unitMode (s : State) (x : Vector SvcBalance 12) (i : LpId) :
    (s.withSvcs x).unitMode i = s.unitMode i := rfl
@[simp] theorem State.withSvcs_reload (s : State) (x : Vector SvcBalance 12) (i : LpId) :
    (s.withSvcs x).reload i = s.reload i := rfl

/-! ### withProvs -/

@[simp] theorem State.withProvs_block (s : State) (x : Vector ProvBalance 8) (i : LpId) :
    (s.withProvs x).block i = s.block i := rfl
@[simp] theorem State.withProvs_svcBlock (s : State) (x : Vector ProvBalance 8) (v : SvcId) :
    (s.withProvs x).svcBlock v = s.svcBlock v := rfl
@[simp] theorem State.withProvs_inUse (s : State) (x : Vector ProvBalance 8) (i : LpId) :
    (s.withProvs x).inUse i = s.inUse i := rfl
@[simp] theorem State.withProvs_svcInUse (s : State) (x : Vector ProvBalance 8) (v : SvcId) :
    (s.withProvs x).svcInUse v = s.svcInUse v := rfl
@[simp] theorem State.withProvs_leader (s : State) (x : Vector ProvBalance 8) (i : LpId) :
    (s.withProvs x).leader i = s.leader i := rfl
@[simp] theorem State.withProvs_isFollower (s : State) (x : Vector ProvBalance 8) (i : LpId) :
    (s.withProvs x).isFollower i = s.isFollower i := rfl
@[simp] theorem State.withProvs_provided (s : State) (x : Vector ProvBalance 8) (i : LpId) :
    (s.withProvs x).provided i = s.provided i := rfl
@[simp] theorem State.withProvs_isProvider (s : State) (x : Vector ProvBalance 8) (i : LpId) :
    (s.withProvs x).isProvider i = s.isProvider i := rfl
@[simp] theorem State.withProvs_level (s : State) (x : Vector ProvBalance 8) (i : LpId) :
    (s.withProvs x).level i = s.level i := rfl
@[simp] theorem State.withProvs_unitMode (s : State) (x : Vector ProvBalance 8) (i : LpId) :
    (s.withProvs x).unitMode i = s.unitMode i := rfl
@[simp] theorem State.withProvs_reload (s : State) (x : Vector ProvBalance 8) (i : LpId) :
    (s.withProvs x).reload i = s.reload i := rfl

/-! ### withRound -/

@[simp] theorem State.withRound_block (s : State) (x : Round) (i : LpId) :
    (s.withRound x).block i = s.block i := rfl
@[simp] theorem State.withRound_svcBlock (s : State) (x : Round) (v : SvcId) :
    (s.withRound x).svcBlock v = s.svcBlock v := rfl
@[simp] theorem State.withRound_inUse (s : State) (x : Round) (i : LpId) :
    (s.withRound x).inUse i = s.inUse i := rfl
@[simp] theorem State.withRound_svcInUse (s : State) (x : Round) (v : SvcId) :
    (s.withRound x).svcInUse v = s.svcInUse v := rfl
@[simp] theorem State.withRound_leader (s : State) (x : Round) (i : LpId) :
    (s.withRound x).leader i = s.leader i := rfl
@[simp] theorem State.withRound_isFollower (s : State) (x : Round) (i : LpId) :
    (s.withRound x).isFollower i = s.isFollower i := rfl
@[simp] theorem State.withRound_provided (s : State) (x : Round) (i : LpId) :
    (s.withRound x).provided i = s.provided i := rfl
@[simp] theorem State.withRound_isProvider (s : State) (x : Round) (i : LpId) :
    (s.withRound x).isProvider i = s.isProvider i := rfl
@[simp] theorem State.withRound_level (s : State) (x : Round) (i : LpId) :
    (s.withRound x).level i = s.level i := rfl
@[simp] theorem State.withRound_unitMode (s : State) (x : Round) (i : LpId) :
    (s.withRound x).unitMode i = s.unitMode i := rfl
@[simp] theorem State.withRound_reload (s : State) (x : Round) (i : LpId) :
    (s.withRound x).reload i = s.reload i := rfl

/-! ### withMode -/

@[simp] theorem State.withMode_block (s : State) (x : ModeCtl) (i : LpId) :
    (s.withMode x).block i = s.block i := rfl
@[simp] theorem State.withMode_svcBlock (s : State) (x : ModeCtl) (v : SvcId) :
    (s.withMode x).svcBlock v = s.svcBlock v := rfl
@[simp] theorem State.withMode_inUse (s : State) (x : ModeCtl) (i : LpId) :
    (s.withMode x).inUse i = s.inUse i := rfl
@[simp] theorem State.withMode_svcInUse (s : State) (x : ModeCtl) (v : SvcId) :
    (s.withMode x).svcInUse v = s.svcInUse v := rfl
@[simp] theorem State.withMode_leader (s : State) (x : ModeCtl) (i : LpId) :
    (s.withMode x).leader i = s.leader i := rfl
@[simp] theorem State.withMode_isFollower (s : State) (x : ModeCtl) (i : LpId) :
    (s.withMode x).isFollower i = s.isFollower i := rfl
@[simp] theorem State.withMode_provided (s : State) (x : ModeCtl) (i : LpId) :
    (s.withMode x).provided i = s.provided i := rfl
@[simp] theorem State.withMode_isProvider (s : State) (x : ModeCtl) (i : LpId) :
    (s.withMode x).isProvider i = s.isProvider i := rfl
@[simp] theorem State.withMode_level (s : State) (x : ModeCtl) (i : LpId) :
    (s.withMode x).level i = s.level i := rfl
@[simp] theorem State.withMode_unitMode (s : State) (x : ModeCtl) (i : LpId) :
    (s.withMode x).unitMode i = s.unitMode i := rfl
@[simp] theorem State.withMode_reload (s : State) (x : ModeCtl) (i : LpId) :
    (s.withMode x).reload i = s.reload i := rfl

/-! ### withFaults -/

@[simp] theorem State.withFaults_block (s : State) (x : FaultUnit) (i : LpId) :
    (s.withFaults x).block i = s.block i := rfl
@[simp] theorem State.withFaults_svcBlock (s : State) (x : FaultUnit) (v : SvcId) :
    (s.withFaults x).svcBlock v = s.svcBlock v := rfl
@[simp] theorem State.withFaults_inUse (s : State) (x : FaultUnit) (i : LpId) :
    (s.withFaults x).inUse i = s.inUse i := rfl
@[simp] theorem State.withFaults_svcInUse (s : State) (x : FaultUnit) (v : SvcId) :
    (s.withFaults x).svcInUse v = s.svcInUse v := rfl
@[simp] theorem State.withFaults_leader (s : State) (x : FaultUnit) (i : LpId) :
    (s.withFaults x).leader i = s.leader i := rfl
@[simp] theorem State.withFaults_isFollower (s : State) (x : FaultUnit) (i : LpId) :
    (s.withFaults x).isFollower i = s.isFollower i := rfl
@[simp] theorem State.withFaults_provided (s : State) (x : FaultUnit) (i : LpId) :
    (s.withFaults x).provided i = s.provided i := rfl
@[simp] theorem State.withFaults_isProvider (s : State) (x : FaultUnit) (i : LpId) :
    (s.withFaults x).isProvider i = s.isProvider i := rfl
@[simp] theorem State.withFaults_level (s : State) (x : FaultUnit) (i : LpId) :
    (s.withFaults x).level i = s.level i := rfl
@[simp] theorem State.withFaults_unitMode (s : State) (x : FaultUnit) (i : LpId) :
    (s.withFaults x).unitMode i = s.unitMode i := rfl
@[simp] theorem State.withFaults_reload (s : State) (x : FaultUnit) (i : LpId) :
    (s.withFaults x).reload i = s.reload i := rfl

end Sys2Proof.Machine
end

