-- ==== Sys2Proof/Laws/Ops.lean ====
section
/-! SUPPORT. What the shared operations of `Machine/Ops.lean` do: reading one channel, unit, line group or timer record
after an update, which blocks a report, a withdrawal, a posting and the entry into a state can touch, and what each
leaves in them. -/

namespace Sys2Proof.Machine

variable (s : State) (i j : LpId)

/-! ### Reading one entry after an update -/

/-- Reading a set entry of a vector over load points. -/
@[simp] theorem getElem_set_lp {α : Type} (v : Vector α 8) (x : α) :
    (v.set i x)[j.val] = if j = i then x else v[j.val] := by
  simp only [Vector.getElem_set, Fin.ext_iff, eq_comm]

@[simp] theorem getElem_set_svc {α : Type} (v : Vector α 12) (k l : SvcId) (x : α) :
    (v.set k x)[l.val] = if l = k then x else v[l.val] := by
  simp only [Vector.getElem_set, Fin.ext_iff, eq_comm]

/-- The same where the index is not yet coerced. -/
theorem get_set_lp {α : Type} (v : Vector α 8) (x : α) : (v.set i x)[j] = if j = i then x else v[j] :=
  getElem_set_lp i j v x

theorem get_set_svc {α : Type} (v : Vector α 12) (k l : SvcId) (x : α) :
    (v.set k x)[l] = if l = k then x else v[l] :=
  getElem_set_svc v k l x

/-- Setting an entry to what it holds changes nothing. -/
@[simp] theorem set_getElem_lp {α : Type} (v : Vector α 8) : v.set i v[i] = v := by
  simp

theorem setChan_chans (c : Chan) : (s.setChan i c).chans[j] = if j = i then c else s.chans[j] := by
  simp [State.setChan]

theorem setUnit_units (u : ActUnit) : (s.setUnit i u).units[j] = if j = i then u else s.units[j] := by
  simp [State.setUnit]

theorem setLines_lines (l : Lines) : (s.setLines i l).lines[j] = if j = i then l else s.lines[j] := by
  simp [State.setLines]

theorem setProv_provs (p : ProvBalance) : (s.setProv i p).provs[j] = if j = i then p else s.provs[j] := by
  simp [State.setProv]

theorem setSvc_svcs (v w : SvcId) (b : SvcBalance) :
    (s.setSvc v b).svcs[w] = if w = v then b else s.svcs[w] := by
  simp [State.setSvc]

/-! ### What the operations on one channel cannot touch -/

@[simp] theorem enterFor_loader (c : Option StartCause) (st : LpState) : (enterFor c i st s).loader = s.loader := rfl
@[simp] theorem enterFor_station (c : Option StartCause) (st : LpState) : (enterFor c i st s).station = s.station := rfl
@[simp] theorem enterFor_config (c : Option StartCause) (st : LpState) : (enterFor c i st s).config = s.config := rfl
@[simp] theorem enterFor_lines (c : Option StartCause) (st : LpState) : (enterFor c i st s).lines = s.lines := rfl
@[simp] theorem enterFor_link (c : Option StartCause) (st : LpState) : (enterFor c i st s).link = s.link := rfl
@[simp] theorem enterFor_peers (c : Option StartCause) (st : LpState) : (enterFor c i st s).peers = s.peers := rfl
@[simp] theorem enterFor_svcs (c : Option StartCause) (st : LpState) : (enterFor c i st s).svcs = s.svcs := rfl
@[simp] theorem enterFor_mode (c : Option StartCause) (st : LpState) : (enterFor c i st s).mode = s.mode := rfl
@[simp] theorem enterFor_faults (c : Option StartCause) (st : LpState) : (enterFor c i st s).faults = s.faults := rfl
@[simp] theorem enterFor_pending (c : Option StartCause) (st : LpState) : (enterFor c i st s).pending = s.pending := rfl

@[simp] theorem enter_loader (st : LpState) : (enter i st s).loader = s.loader := rfl
@[simp] theorem enter_station (st : LpState) : (enter i st s).station = s.station := rfl
@[simp] theorem enter_config (st : LpState) : (enter i st s).config = s.config := rfl
@[simp] theorem enter_lines (st : LpState) : (enter i st s).lines = s.lines := rfl
@[simp] theorem enter_link (st : LpState) : (enter i st s).link = s.link := rfl
@[simp] theorem enter_peers (st : LpState) : (enter i st s).peers = s.peers := rfl
@[simp] theorem enter_svcs (st : LpState) : (enter i st s).svcs = s.svcs := rfl
@[simp] theorem enter_mode (st : LpState) : (enter i st s).mode = s.mode := rfl
@[simp] theorem enter_faults (st : LpState) : (enter i st s).faults = s.faults := rfl
@[simp] theorem enter_pending (st : LpState) : (enter i st s).pending = s.pending := rfl

@[simp] theorem withdraw_loader : (withdraw i s).loader = s.loader := rfl
@[simp] theorem withdraw_station : (withdraw i s).station = s.station := rfl
@[simp] theorem withdraw_config : (withdraw i s).config = s.config := rfl
@[simp] theorem withdraw_lines : (withdraw i s).lines = s.lines := rfl
@[simp] theorem withdraw_units : (withdraw i s).units = s.units := rfl
@[simp] theorem withdraw_link : (withdraw i s).link = s.link := rfl
@[simp] theorem withdraw_peers : (withdraw i s).peers = s.peers := rfl
@[simp] theorem withdraw_svcs : (withdraw i s).svcs = s.svcs := rfl
@[simp] theorem withdraw_provs : (withdraw i s).provs = s.provs := rfl
@[simp] theorem withdraw_mode : (withdraw i s).mode = s.mode := rfl
@[simp] theorem withdraw_faults : (withdraw i s).faults = s.faults := rfl
@[simp] theorem withdraw_pending : (withdraw i s).pending = s.pending := rfl

@[simp] theorem post_loader (a : Action) (c : Cause) : (post i a c s).loader = s.loader := rfl
@[simp] theorem post_station (a : Action) (c : Cause) : (post i a c s).station = s.station := rfl
@[simp] theorem post_config (a : Action) (c : Cause) : (post i a c s).config = s.config := rfl
@[simp] theorem post_lines (a : Action) (c : Cause) : (post i a c s).lines = s.lines := rfl
@[simp] theorem post_units (a : Action) (c : Cause) : (post i a c s).units = s.units := rfl
@[simp] theorem post_link (a : Action) (c : Cause) : (post i a c s).link = s.link := rfl
@[simp] theorem post_peers (a : Action) (c : Cause) : (post i a c s).peers = s.peers := rfl
@[simp] theorem post_svcs (a : Action) (c : Cause) : (post i a c s).svcs = s.svcs := rfl
@[simp] theorem post_provs (a : Action) (c : Cause) : (post i a c s).provs = s.provs := rfl
@[simp] theorem post_mode (a : Action) (c : Cause) : (post i a c s).mode = s.mode := rfl
@[simp] theorem post_faults (a : Action) (c : Cause) : (post i a c s).faults = s.faults := rfl
@[simp] theorem post_pending (a : Action) (c : Cause) : (post i a c s).pending = s.pending := rfl

@[simp] theorem takeBack_loader : (takeBack i s).loader = s.loader := rfl
@[simp] theorem takeBack_station : (takeBack i s).station = s.station := rfl
@[simp] theorem takeBack_config : (takeBack i s).config = s.config := rfl
@[simp] theorem takeBack_lines : (takeBack i s).lines = s.lines := rfl
@[simp] theorem takeBack_link : (takeBack i s).link = s.link := rfl
@[simp] theorem takeBack_peers : (takeBack i s).peers = s.peers := rfl
@[simp] theorem takeBack_svcs : (takeBack i s).svcs = s.svcs := rfl
@[simp] theorem takeBack_mode : (takeBack i s).mode = s.mode := rfl
@[simp] theorem takeBack_pending : (takeBack i s).pending = s.pending := rfl

@[simp] theorem reportLp_loader (code : FaultCode) (lock : Bool) : (reportLp i code lock s).loader = s.loader := rfl
@[simp] theorem reportLp_station (code : FaultCode) (lock : Bool) : (reportLp i code lock s).station = s.station := rfl
@[simp] theorem reportLp_config (code : FaultCode) (lock : Bool) : (reportLp i code lock s).config = s.config := rfl
@[simp] theorem reportLp_lines (code : FaultCode) (lock : Bool) : (reportLp i code lock s).lines = s.lines := rfl
@[simp] theorem reportLp_units (code : FaultCode) (lock : Bool) : (reportLp i code lock s).units = s.units := rfl
@[simp] theorem reportLp_chans (code : FaultCode) (lock : Bool) : (reportLp i code lock s).chans = s.chans := rfl
@[simp] theorem reportLp_link (code : FaultCode) (lock : Bool) : (reportLp i code lock s).link = s.link := rfl
@[simp] theorem reportLp_peers (code : FaultCode) (lock : Bool) : (reportLp i code lock s).peers = s.peers := rfl
@[simp] theorem reportLp_svcs (code : FaultCode) (lock : Bool) : (reportLp i code lock s).svcs = s.svcs := rfl
@[simp] theorem reportLp_provs (code : FaultCode) (lock : Bool) : (reportLp i code lock s).provs = s.provs := rfl
@[simp] theorem reportLp_round (code : FaultCode) (lock : Bool) : (reportLp i code lock s).round = s.round := rfl
@[simp] theorem reportLp_mode (code : FaultCode) (lock : Bool) : (reportLp i code lock s).mode = s.mode := rfl
@[simp] theorem reportLp_pending (code : FaultCode) (lock : Bool) : (reportLp i code lock s).pending = s.pending := rfl

@[simp] theorem lockSoft_loader (code : FaultCode) : (lockSoft i code s).loader = s.loader := by
  simp [lockSoft, State.setChan]
@[simp] theorem lockSoft_station (code : FaultCode) : (lockSoft i code s).station = s.station := by
  simp [lockSoft, State.setChan]
@[simp] theorem lockSoft_config (code : FaultCode) : (lockSoft i code s).config = s.config := by
  simp [lockSoft, State.setChan]
@[simp] theorem lockSoft_lines (code : FaultCode) : (lockSoft i code s).lines = s.lines := by
  simp [lockSoft, State.setChan]
@[simp] theorem lockSoft_link (code : FaultCode) : (lockSoft i code s).link = s.link := by
  simp [lockSoft, State.setChan]
@[simp] theorem lockSoft_peers (code : FaultCode) : (lockSoft i code s).peers = s.peers := by
  simp [lockSoft, State.setChan]
@[simp] theorem lockSoft_svcs (code : FaultCode) : (lockSoft i code s).svcs = s.svcs := by
  simp [lockSoft, State.setChan]
@[simp] theorem lockSoft_mode (code : FaultCode) : (lockSoft i code s).mode = s.mode := by
  simp [lockSoft, State.setChan]
@[simp] theorem lockSoft_pending (code : FaultCode) : (lockSoft i code s).pending = s.pending := by
  simp [lockSoft, State.setChan]

@[simp] theorem confirmStop_loader : (confirmStop i s).loader = s.loader := rfl
@[simp] theorem confirmStop_station : (confirmStop i s).station = s.station := rfl
@[simp] theorem confirmStop_config : (confirmStop i s).config = s.config := rfl
@[simp] theorem confirmStop_lines : (confirmStop i s).lines = s.lines := rfl
@[simp] theorem confirmStop_link : (confirmStop i s).link = s.link := rfl
@[simp] theorem confirmStop_peers : (confirmStop i s).peers = s.peers := rfl
@[simp] theorem confirmStop_svcs : (confirmStop i s).svcs = s.svcs := rfl
@[simp] theorem confirmStop_mode : (confirmStop i s).mode = s.mode := rfl
@[simp] theorem confirmStop_faults : (confirmStop i s).faults = s.faults := rfl
@[simp] theorem confirmStop_pending : (confirmStop i s).pending = s.pending := rfl

@[simp] theorem raise_faults (c : EventClass) :
    (s.raise c).faults = { s.faults with flags := s.faults.flags ||| c.bit } := rfl

/-! ### Each channel answering in turn -/

/-- What every channel's answer keeps is kept by all of them. -/
theorem foldl_keeps {α β : Type} {f : State → α} {g : State → β → State} (h : ∀ s x, f (g s x) = f s) :
    ∀ (l : List β) (s : State), f (l.foldl g s) = f s
  | [], _ => rfl
  | x :: xs, s => (foldl_keeps h xs (g s x)).trans (h s x)

/-- The same for a property. -/
theorem foldl_induct {β : Type} {P : State → Prop} {g : State → β → State} (h : ∀ s x, P s → P (g s x)) :
    ∀ (l : List β) (s : State), P s → P (l.foldl g s)
  | [], _, hs => hs
  | x :: xs, s, hs => foldl_induct h xs (g s x) (h s x hs)

@[simp] theorem nightAnswer_loader : (nightAnswer s i).loader = s.loader := by
  unfold nightAnswer; split
  · dsimp only; split <;> rfl
  · rfl
@[simp] theorem nightAnswer_station : (nightAnswer s i).station = s.station := by
  unfold nightAnswer; split
  · dsimp only; split <;> rfl
  · rfl
@[simp] theorem nightAnswer_config : (nightAnswer s i).config = s.config := by
  unfold nightAnswer; split
  · dsimp only; split <;> rfl
  · rfl
@[simp] theorem nightAnswer_lines : (nightAnswer s i).lines = s.lines := by
  unfold nightAnswer; split
  · dsimp only; split <;> rfl
  · rfl
@[simp] theorem nightAnswer_link : (nightAnswer s i).link = s.link := by
  unfold nightAnswer; split
  · dsimp only; split <;> rfl
  · rfl
@[simp] theorem nightAnswer_peers : (nightAnswer s i).peers = s.peers := by
  unfold nightAnswer; split
  · dsimp only; split <;> rfl
  · rfl
@[simp] theorem nightAnswer_svcs : (nightAnswer s i).svcs = s.svcs := by
  unfold nightAnswer; split
  · dsimp only; split <;> rfl
  · rfl
@[simp] theorem nightAnswer_mode : (nightAnswer s i).mode = s.mode := by
  unfold nightAnswer; split
  · dsimp only; split <;> rfl
  · rfl
@[simp] theorem nightAnswer_faults : (nightAnswer s i).faults = s.faults := by
  unfold nightAnswer; split
  · dsimp only; split <;> rfl
  · rfl
@[simp] theorem nightAnswer_pending : (nightAnswer s i).pending = s.pending := by
  unfold nightAnswer; split
  · dsimp only; split <;> rfl
  · rfl

@[simp] theorem wakeAnswer_loader : (wakeAnswer s i).loader = s.loader := by
  unfold wakeAnswer; split
  · split <;> rfl
  · rfl
@[simp] theorem wakeAnswer_station : (wakeAnswer s i).station = s.station := by
  unfold wakeAnswer; split
  · split <;> rfl
  · rfl
@[simp] theorem wakeAnswer_config : (wakeAnswer s i).config = s.config := by
  unfold wakeAnswer; split
  · split <;> rfl
  · rfl
@[simp] theorem wakeAnswer_lines : (wakeAnswer s i).lines = s.lines := by
  unfold wakeAnswer; split
  · split <;> rfl
  · rfl
@[simp] theorem wakeAnswer_link : (wakeAnswer s i).link = s.link := by
  unfold wakeAnswer; split
  · split <;> rfl
  · rfl
@[simp] theorem wakeAnswer_peers : (wakeAnswer s i).peers = s.peers := by
  unfold wakeAnswer; split
  · split <;> rfl
  · rfl
@[simp] theorem wakeAnswer_svcs : (wakeAnswer s i).svcs = s.svcs := by
  unfold wakeAnswer; split
  · split <;> rfl
  · rfl
@[simp] theorem wakeAnswer_mode : (wakeAnswer s i).mode = s.mode := by
  unfold wakeAnswer; split
  · split <;> rfl
  · rfl
@[simp] theorem wakeAnswer_faults : (wakeAnswer s i).faults = s.faults := by
  unfold wakeAnswer; split
  · split <;> rfl
  · rfl
@[simp] theorem wakeAnswer_pending : (wakeAnswer s i).pending = s.pending := by
  unfold wakeAnswer; split
  · split <;> rfl
  · rfl

@[simp] theorem dayAnswer_loader : (dayAnswer s i).loader = s.loader := by
  unfold dayAnswer; split <;> rfl
@[simp] theorem dayAnswer_station : (dayAnswer s i).station = s.station := by
  unfold dayAnswer; split <;> rfl
@[simp] theorem dayAnswer_config : (dayAnswer s i).config = s.config := by
  unfold dayAnswer; split <;> rfl
@[simp] theorem dayAnswer_lines : (dayAnswer s i).lines = s.lines := by
  unfold dayAnswer; split <;> rfl
@[simp] theorem dayAnswer_link : (dayAnswer s i).link = s.link := by
  unfold dayAnswer; split <;> rfl
@[simp] theorem dayAnswer_peers : (dayAnswer s i).peers = s.peers := by
  unfold dayAnswer; split <;> rfl
@[simp] theorem dayAnswer_svcs : (dayAnswer s i).svcs = s.svcs := by
  unfold dayAnswer; split <;> rfl
@[simp] theorem dayAnswer_mode : (dayAnswer s i).mode = s.mode := by
  unfold dayAnswer; split <;> rfl
@[simp] theorem dayAnswer_faults : (dayAnswer s i).faults = s.faults := by
  unfold dayAnswer; split <;> rfl
@[simp] theorem dayAnswer_pending : (dayAnswer s i).pending = s.pending := by
  unfold dayAnswer; split <;> rfl

/-- What no channel's answer changes, an entry into a plant mode changes only by the mode itself. -/
theorem enterMode_keeps {α : Type} {f : State → α} (hn : ∀ s i, f (nightAnswer s i) = f s)
    (hw : ∀ s i, f (wakeAnswer s i) = f s) (hd : ∀ s i, f (dayAnswer s i) = f s) (m : PlantMode) (s : State) :
    f (enterMode m s) = f (s.withMode { s.mode with plant := m }) := by
  cases m
  · exact foldl_keeps hd lpIds (s.withMode { s.mode with plant := .day })
  · exact foldl_keeps hn lpIds (s.withMode { s.mode with plant := .night })
  · exact foldl_keeps hw lpIds (s.withMode { s.mode with plant := .wake })

@[simp] theorem enterMode_loader (m : PlantMode) : (enterMode m s).loader = s.loader :=
  enterMode_keeps (f := State.loader) nightAnswer_loader wakeAnswer_loader dayAnswer_loader m s
@[simp] theorem enterMode_station (m : PlantMode) : (enterMode m s).station = s.station :=
  enterMode_keeps (f := State.station) nightAnswer_station wakeAnswer_station dayAnswer_station m s
@[simp] theorem enterMode_config (m : PlantMode) : (enterMode m s).config = s.config :=
  enterMode_keeps (f := State.config) nightAnswer_config wakeAnswer_config dayAnswer_config m s
@[simp] theorem enterMode_lines (m : PlantMode) : (enterMode m s).lines = s.lines :=
  enterMode_keeps (f := State.lines) nightAnswer_lines wakeAnswer_lines dayAnswer_lines m s
@[simp] theorem enterMode_link (m : PlantMode) : (enterMode m s).link = s.link :=
  enterMode_keeps (f := State.link) nightAnswer_link wakeAnswer_link dayAnswer_link m s
@[simp] theorem enterMode_peers (m : PlantMode) : (enterMode m s).peers = s.peers :=
  enterMode_keeps (f := State.peers) nightAnswer_peers wakeAnswer_peers dayAnswer_peers m s
@[simp] theorem enterMode_svcs (m : PlantMode) : (enterMode m s).svcs = s.svcs :=
  enterMode_keeps (f := State.svcs) nightAnswer_svcs wakeAnswer_svcs dayAnswer_svcs m s
@[simp] theorem enterMode_faults (m : PlantMode) : (enterMode m s).faults = s.faults :=
  enterMode_keeps (f := State.faults) nightAnswer_faults wakeAnswer_faults dayAnswer_faults m s
@[simp] theorem enterMode_pending (m : PlantMode) : (enterMode m s).pending = s.pending :=
  enterMode_keeps (f := State.pending) nightAnswer_pending wakeAnswer_pending dayAnswer_pending m s
@[simp] theorem enterMode_mode (m : PlantMode) : (enterMode m s).mode = { s.mode with plant := m } :=
  enterMode_keeps (f := State.mode) nightAnswer_mode wakeAnswer_mode dayAnswer_mode m s


/-! ### What an entry into a state leaves in each vector -/

theorem enterFor_chans (c : Option StartCause) (st : LpState) :
    (enterFor c i st s).chans[j] = if j = i then
      { entryFields s i c st (s.chans[i].moved st) with
        watch := if s.chans[i].state.stopAsserted = st.stopAsserted then s.chans[i].watch
          else freshWatch s.chans[i].lockout s.lines[i].stoprb st.stopAsserted }
    else s.chans[j] := get_set_lp i j _ _

theorem enterFor_units (c : Option StartCause) (st : LpState) :
    (enterFor c i st s).units[j] = if j = i then
      s.units[i].follow st (s.unitMode i = .rotation) (s.reload i) else s.units[j] := get_set_lp i j _ _

theorem enterFor_provs (c : Option StartCause) (st : LpState) :
    (enterFor c i st s).provs[j] = if j = i then
      { s.provs[i] with reported := s.provs[i].reported && !decide (s.chans[i].state = .stopPending) }
    else s.provs[j] := get_set_lp i j _ _

theorem enterFor_round (c : Option StartCause) (st : LpState) :
    (enterFor c i st s).round = { s.round with queue := dropQueued i s.round.queue } := rfl

/-- The entry into a state starts timers and sets the cause and the run-on mark; it leaves the other fields. -/
theorem entryFields_keeps (c : Option StartCause) (st : LpState) (x : Chan) :
    let y := entryFields s i c st x
    y.state = x.state ∧ y.retry = x.retry ∧ y.recalls = x.recalls ∧ y.autoOff = x.autoOff ∧
      y.lockout = x.lockout ∧ y.watch = x.watch ∧ y.overrun = x.overrun ∧ y.surplusHeld = x.surplusHeld ∧
      y.entryQueued = x.entryQueued ∧ y.leadT = x.leadT := by
  unfold entryFields
  dsimp only
  split
  · exact ⟨rfl, rfl, rfl, rfl, rfl, rfl, rfl, rfl, rfl, rfl⟩
  · exact ⟨rfl, rfl, rfl, rfl, rfl, rfl, rfl, rfl, rfl, rfl⟩
  · split
    · split <;> exact ⟨rfl, rfl, rfl, rfl, rfl, rfl, rfl, rfl, rfl, rfl⟩
    · exact ⟨rfl, rfl, rfl, rfl, rfl, rfl, rfl, rfl, rfl, rfl⟩
  · exact ⟨rfl, rfl, rfl, rfl, rfl, rfl, rfl, rfl, rfl, rfl⟩
  · split <;> exact ⟨rfl, rfl, rfl, rfl, rfl, rfl, rfl, rfl, rfl, rfl⟩
  · exact ⟨rfl, rfl, rfl, rfl, rfl, rfl, rfl, rfl, rfl, rfl⟩

/-- What the unit does as its channel enters a state leaves its counts, level and sample. -/
theorem follow_keeps (u : ActUnit) (st : LpState) (rotation : Bool) (reload : Nat) :
    let v := u.follow st rotation reload
    v.count = u.count ∧ v.loaded = u.loaded ∧ v.lastDelta = u.lastDelta ∧ v.lastPosition = u.lastPosition ∧
      v.lastSign = u.lastSign ∧ v.dirCount = u.dirCount := by
  unfold ActUnit.follow
  dsimp only
  split <;> exact ⟨rfl, rfl, rfl, rfl, rfl, rfl⟩

/-! ### One channel's answer leaves the others -/

theorem nightAnswer_chans_ne (h : j ≠ i) : (nightAnswer s i).chans[j] = s.chans[j] := by
  unfold nightAnswer
  split
  · dsimp only
    split <;> simp [enter, enterFor_chans, setChan_chans, h, -Fin.getElem_fin]
  · rfl

theorem wakeAnswer_chans_ne (h : j ≠ i) : (wakeAnswer s i).chans[j] = s.chans[j] := by
  unfold wakeAnswer
  split
  · split <;> simp [enter, enterFor_chans, setChan_chans, h, -Fin.getElem_fin]
  · rfl

theorem dayAnswer_chans_ne (h : j ≠ i) : (dayAnswer s i).chans[j] = s.chans[j] := by
  unfold dayAnswer
  split
  · simp [enter, enterFor_chans, h, -Fin.getElem_fin]
  · rfl

/-- Where answers touch only their own channel and keep the configuration, walking all load points leaves at one of
them what its own answer leaves, taken in a state with that channel and that configuration. -/
theorem walk_lps_at {g : State → LpId → State} (hc : ∀ s i, (g s i).config = s.config)
    (hne : ∀ (s : State) (i j : LpId), j ≠ i → (g s i).chans[j] = s.chans[j]) :
    ∃ t : State, t.chans[i] = s.chans[i] ∧ t.config = s.config ∧ (lpIds.foldl g s).chans[i] = (g t i).chans[i] := by
  have skip : ∀ (l : List LpId) (t : State), i ∉ l → (l.foldl g t).chans[i] = t.chans[i] := by
    intro l
    induction l with
    | nil => intros; rfl
    | cons x xs ih =>
      intro t h
      simp only [List.mem_cons, not_or] at h
      rw [List.foldl_cons, ih _ h.2, hne _ _ _ h.1]
  obtain ⟨a, b, hab, ha, hb⟩ : ∃ a b, lpIds = a ++ i :: b ∧ i ∉ a ∧ i ∉ b := by
    clear skip
    fin_cases i
    · exact ⟨[], [1, 2, 3, 4, 5, 6, 7], by decide⟩
    · exact ⟨[0], [2, 3, 4, 5, 6, 7], by decide⟩
    · exact ⟨[0, 1], [3, 4, 5, 6, 7], by decide⟩
    · exact ⟨[0, 1, 2], [4, 5, 6, 7], by decide⟩
    · exact ⟨[0, 1, 2, 3], [5, 6, 7], by decide⟩
    · exact ⟨[0, 1, 2, 3, 4], [6, 7], by decide⟩
    · exact ⟨[0, 1, 2, 3, 4, 5], [7], by decide⟩
    · exact ⟨[0, 1, 2, 3, 4, 5, 6], [], by decide⟩
  refine ⟨a.foldl g s, skip a s ha, foldl_keeps (f := State.config) hc a s, ?_⟩
  rw [hab, List.foldl_append, List.foldl_cons, skip b _ hb]

end Sys2Proof.Machine
end

