-- ==== Sys2Proof/Laws/Cascade.lean ====
section
/-! SUPPORT. The consequences of an event: what must hold for each to be due, the induction over them, and the blocks
that no consequence touches. -/

namespace Sys2Proof.Machine

/-! ### The induction -/

/-- What holds of a state and is kept by every consequence that is due holds after all of them. -/
theorem settleFor_induct {P : State → Prop} (h : ∀ s d, P s → due s = some d → P (fire s d)) :
    ∀ (n : Nat) (s : State), P s → P (settleFor n s)
  | 0, _, hs => hs
  | n + 1, s, hs => by
    unfold settleFor
    split
    · exact hs
    · exact settleFor_induct h n _ (h _ _ hs ‹_›)

/-- With nothing due there is nothing to take. -/
theorem settleFor_of_quiet {s : State} (h : Quiet s) (n : Nat) : settleFor n s = s := by
  cases n
  · rfl
  · unfold settleFor
    rw [show due s = none from h]

/-- The first consequence of an event. -/
theorem settleFor_succ_of_due {s : State} {d : Due} (h : due s = some d) (n : Nat) :
    settleFor (n + 1) s = settleFor n (fire s d) := by
  conv_lhs => unfold settleFor
  rw [h]

/-- `settle` takes the first consequence, then up to the bound less one, and releases what is left. -/
theorem settle_of_due {s : State} {d : Due} (h : due s = some d) :
    settle s = releaseAll (settleFor (Config.cascadeBound - 1) (fire s d)) :=
  congrArg releaseAll (settleFor_succ_of_due h _)

/-! ### When a consequence is due -/

theorem anyLp_eq_some {f : State → LpId → Option Due} {s : State} {d : Due} (h : anyLp f s = some d) :
    ∃ i, f s i = some d := by
  obtain ⟨i, -, hi⟩ := List.exists_of_findSome?_eq_some h
  exact ⟨i, hi⟩

theorem anySvc_eq_some {f : State → SvcId → Option Due} {s : State} {d : Due} (h : anySvc f s = some d) :
    ∃ v, f s v = some d := by
  obtain ⟨v, -, hv⟩ := List.exists_of_findSome?_eq_some h
  exact ⟨v, hv⟩

theorem mem_lpIds (i : LpId) : i ∈ lpIds := by revert i; decide
theorem mem_svcIds (v : SvcId) : v ∈ svcIds := by revert v; decide

theorem anyLp_eq_none {f : State → LpId → Option Due} {s : State} (h : anyLp f s = none) (i : LpId) :
    f s i = none :=
  List.findSome?_eq_none_iff.mp h i (mem_lpIds i)

theorem anySvc_eq_none {f : State → SvcId → Option Due} {s : State} (h : anySvc f s = none) (v : SvcId) :
    f s v = none :=
  List.findSome?_eq_none_iff.mp h v (mem_svcIds v)

/-- A consequence that is due comes from one of the rules. -/
theorem due_from_rule {s : State} {d : Due} (h : due s = some d) : ∃ f ∈ dueRules, f s = some d :=
  List.exists_of_findSome?_eq_some h

/-- With nothing due no rule has a consequence. -/
theorem quiet_rules {s : State} (h : Quiet s) : ∀ f ∈ dueRules, f s = none := List.findSome?_eq_none_iff.mp h

/-- What holds of the state in which a consequence is due. -/
def Due.Guard (s : State) : Due → Prop
  | .takeBack i => s.inUse i = true ∧ s.recalled i = true
  | .confirm i => s.inUse i = true ∧ s.chans[i].state = .stopRequested ∧ s.stopConfirmed i = true
  | .release i st => s.leaderReleased i = true ∧ releaseTo s.chans[i].state = some st
  | .call i cause => ∃ l, s.leader i = some l ∧ s.chans[l].state = .startPending ∧ s.chans[i].state = .stopped ∧
      cause = s.chans[l].cause
  | .callOut i => ∃ l, s.leader i = some l ∧ s.chans[l].state = .startPending ∧
      (s.chans[i].state = .stopPending ∨ s.chans[i].state = .stopRequested)
  | .goIdle i st => s.nightWork = true ∧ s.inUse i = true ∧ s.chans[i].state = .running ∧ 1 ≤ s.level i ∧
      s.handPresent i = false ∧
      (s.isFollower i = true ∧ s.leaderIn i .stopped = true ∧ st = .stopPending ∨
        s.isFollower i = false ∧ st = .idleWatch)
  | .runOnStop i => s.isFollower i = true ∧ s.isProvider i = false ∧ s.chans[i].state = .stopPending ∧
      s.chans[i].runOnDone = true
  | .shortBegins v => s.shortOf v = true ∧ s.shortWatched = true ∧ s.svcs[v].timer = .off
  | .shortCeases v => (s.shortOf v = false ∨ s.shortWatched = false) ∧
      (s.svcs[v].timer ≠ .off ∨ s.svcs[v].confirmed = true ∨ s.svcs[v].inForce = true)
  | .shortForce v on => s.shortOf v = true ∧ s.shortWatched = true ∧ s.svcs[v].timer ≠ .off ∧
      on = (s.svcs[v].confirmed && s.nightWork) ∧ s.svcs[v].inForce ≠ on
  | .surplusBegins i => s.assessing = true ∧ s.surplusOf i = true ∧ s.provs[i].timer = .off
  | .surplusCeases i => (s.assessing = false ∨ s.surplusOf i = false) ∧
      (s.provs[i].timer ≠ .off ∨ s.provs[i].established = true)
  | .surplusReport i => s.isProvider i = true ∧ s.provs[i].established = true ∧ s.provs[i].reported = false ∧
      s.chans[i].state = .stopPending
  | .surplusEnds i => s.provs[i].reported = true ∧
      (s.provs[i].established = false ∨ s.chans[i].state ≠ .stopPending)
  | .callOff i => s.inUse i = true ∧ s.chans[i].state = .startPending ∧ s.chans[i].cause = some .shortfall ∧
      s.ownShortfall i = false ∧ s.leaderIn i .startPending = false
  | .bid i cause => s.deciding = true ∧ s.inUse i = true ∧ s.chans[i].state = .stopped ∧
      (s.mode.plant = .wake ∧ cause = .wake ∨
        s.mode.plant ≠ .wake ∧ s.ownShortInForce i = true ∧ cause = .shortfall)
  | .leadBegins i => s.isLeader i = true ∧ s.chans[i].state = .startPending ∧ s.leadHeld i = true ∧
      s.chans[i].leadT = .off
  | .leadLost i => s.isLeader i = true ∧ s.chans[i].state = .startPending ∧ s.leadHeld i = false ∧
      s.chans[i].leadT ≠ .off
  | .postStop i => s.inUse i = true ∧ s.chans[i].entryQueued = false ∧ s.chans[i].state = .stopPending ∧
      s.isProvider i = true ∧ s.chans[i].surplusHeld = true ∧
      (s.isFollower i = true → s.chans[i].runOnDone = true)
  | .postStart i => s.inUse i = true ∧ s.chans[i].entryQueued = false ∧ s.chans[i].state = .startPending ∧
      s.ready i = true
  | .enters m => s.deciding = true ∧
      (m = .night ∧ s.mode.plant ≠ .night ∧ s.nightSignal = true ∨
        m = .wake ∧ s.mode.plant = .night ∧ s.nightSignal = false ∨
        m = .day ∧ s.mode.plant = .wake ∧ s.nightSignal = false ∧ s.anyHeld = false)
  | .stagger q => s.staggering = true ∧ (∀ i : LpId, s.chans[i].state ≠ .starting) ∧
      ∃ front back, s.round.queue = front ++ q :: back ∧ q.entry.action = .start ∧
        s.round.committed q.serial = false ∧
        ∀ x ∈ front, x.entry.action = .start → s.round.committed x.serial = true
  | .handIntent => s.mayHandIntent = true

theorem takeBackDue_guard {s : State} {i : LpId} {d : Due} (h : takeBackDue s i = some d) : d.Guard s := by
  unfold takeBackDue at h
  grind [Due.Guard]

theorem confirmDue_guard {s : State} {i : LpId} {d : Due} (h : confirmDue s i = some d) : d.Guard s := by
  unfold confirmDue at h
  grind [Due.Guard]

theorem releaseDue_guard {s : State} {i : LpId} {d : Due} (h : releaseDue s i = some d) : d.Guard s := by
  unfold releaseDue at h
  split at h
  · obtain ⟨st, hst, rfl⟩ := Option.map_eq_some_iff.mp h
    exact ⟨‹_›, hst⟩
  · cases h

theorem callDue_guard {s : State} {i : LpId} {d : Due} (h : callDue s i = some d) : d.Guard s := by
  unfold callDue at h
  grind [Due.Guard]

theorem goIdleDue_guard {s : State} {i : LpId} {d : Due} (h : goIdleDue s i = some d) : d.Guard s := by
  unfold goIdleDue at h
  grind [Due.Guard]

theorem runOnDue_guard {s : State} {i : LpId} {d : Due} (h : runOnDue s i = some d) : d.Guard s := by
  unfold runOnDue at h
  grind [Due.Guard]

theorem surplusDue_guard {s : State} {i : LpId} {d : Due} (h : surplusDue s i = some d) : d.Guard s := by
  unfold surplusDue at h
  grind [Due.Guard]

theorem reportDue_guard {s : State} {i : LpId} {d : Due} (h : reportDue s i = some d) : d.Guard s := by
  unfold reportDue at h
  grind [Due.Guard]

theorem callOffDue_guard {s : State} {i : LpId} {d : Due} (h : callOffDue s i = some d) : d.Guard s := by
  unfold callOffDue at h
  grind [Due.Guard]

theorem bidDue_guard {s : State} {i : LpId} {d : Due} (h : bidDue s i = some d) : d.Guard s := by
  unfold bidDue at h
  grind [Due.Guard]

theorem leadDue_guard {s : State} {i : LpId} {d : Due} (h : leadDue s i = some d) : d.Guard s := by
  unfold leadDue at h
  grind [Due.Guard]

theorem postDue_guard {s : State} {i : LpId} {d : Due} (h : postDue s i = some d) : d.Guard s := by
  unfold postDue at h
  grind [Due.Guard]

theorem shortDue_guard {s : State} {v : SvcId} {d : Due} (h : shortDue s v = some d) : d.Guard s := by
  unfold shortDue at h
  grind [Due.Guard]

theorem modeDue_guard {s : State} {d : Due} (h : modeDue s = some d) : d.Guard s := by
  unfold modeDue at h
  grind [Due.Guard]

theorem staggerDue_guard {s : State} {d : Due} (h : staggerDue s = some d) : d.Guard s := by
  unfold staggerDue at h
  split at h
  · obtain ⟨q, hq, rfl⟩ := Option.map_eq_some_iff.mp h
    obtain ⟨hp, front, back, hs, hf⟩ := List.find?_eq_some_iff_append.mp hq
    simp only [Bool.and_eq_true, beq_iff_eq, Bool.not_eq_true'] at hp
    have hw : s.staggering = true ∧ ∀ i : LpId, s.chans[i].state ≠ .starting := by simp_all [mem_lpIds]
    exact ⟨hw.1, hw.2, front, back, hs, hp.1, hp.2, fun x hx ha => by simpa [ha] using hf x hx⟩
  · cases h

theorem intentDue_guard {s : State} {d : Due} (h : intentDue s = some d) : d.Guard s := by
  unfold intentDue at h
  grind [Due.Guard]

/-- A consequence that is due has its guard. -/
theorem due_guard {s : State} {d : Due} (h : due s = some d) : d.Guard s := by
  obtain ⟨f, hf, hd⟩ := due_from_rule h
  simp only [dueRules, List.mem_cons, List.not_mem_nil, or_false] at hf
  rcases hf with rfl | rfl | rfl | rfl | rfl | rfl | rfl | rfl | rfl | rfl | rfl | rfl | rfl | rfl | rfl | rfl
  · exact takeBackDue_guard (anyLp_eq_some hd).choose_spec
  · exact confirmDue_guard (anyLp_eq_some hd).choose_spec
  · exact releaseDue_guard (anyLp_eq_some hd).choose_spec
  · exact callDue_guard (anyLp_eq_some hd).choose_spec
  · exact goIdleDue_guard (anyLp_eq_some hd).choose_spec
  · exact runOnDue_guard (anyLp_eq_some hd).choose_spec
  · exact shortDue_guard (anySvc_eq_some hd).choose_spec
  · exact surplusDue_guard (anyLp_eq_some hd).choose_spec
  · exact reportDue_guard (anyLp_eq_some hd).choose_spec
  · exact callOffDue_guard (anyLp_eq_some hd).choose_spec
  · exact bidDue_guard (anyLp_eq_some hd).choose_spec
  · exact leadDue_guard (anyLp_eq_some hd).choose_spec
  · exact postDue_guard (anyLp_eq_some hd).choose_spec
  · exact modeDue_guard hd
  · exact staggerDue_guard hd
  · exact intentDue_guard hd

/-! ### The releases at the end, and all consequences together -/

/-- What holds of a state and is kept by every consequence whose guard holds, holds after the releases. -/
theorem releaseFor_induct {P : State → Prop} (h : ∀ s d, P s → d.Guard s → P (fire s d)) :
    ∀ (n : Nat) (s : State), P s → P (releaseFor n s)
  | 0, _, hs => hs
  | n + 1, s, hs => by
    unfold releaseFor
    split
    · exact hs
    · exact releaseFor_induct h n _ (h _ _ hs (releaseDue_guard (anyLp_eq_some ‹_›).choose_spec))

/-- What holds of a state and is kept by every consequence whose guard holds, holds after all of them. -/
theorem settle_induct {P : State → Prop} (h : ∀ s d, P s → d.Guard s → P (fire s d)) (s : State) (hs : P s) :
    P (settle s) :=
  releaseFor_induct h _ _ (settleFor_induct (fun s d hs hd => h s d hs (due_guard hd)) _ s hs)

/-- With no follower to release nothing is released. -/
theorem releaseFor_of_none {s : State} (h : anyLp releaseDue s = none) (n : Nat) : releaseFor n s = s := by
  cases n
  · rfl
  · unfold releaseFor
    rw [h]

theorem settle_of_quiet {s : State} (h : Quiet s) : settle s = s := by
  unfold settle releaseAll
  rw [settleFor_of_quiet h]
  exact releaseFor_of_none (quiet_rules h _ (by simp [dueRules])) _

/-! ### What no consequence touches -/

@[simp] theorem grantEntry_loader (q : QueueEntry) (s : State) : (grantEntry q s).loader = s.loader := by
  unfold grantEntry; dsimp only; split <;> rfl
@[simp] theorem grantEntry_station (q : QueueEntry) (s : State) : (grantEntry q s).station = s.station := by
  unfold grantEntry; dsimp only; split <;> rfl
@[simp] theorem grantEntry_config (q : QueueEntry) (s : State) : (grantEntry q s).config = s.config := by
  unfold grantEntry; dsimp only; split <;> rfl
@[simp] theorem grantEntry_lines (q : QueueEntry) (s : State) : (grantEntry q s).lines = s.lines := by
  unfold grantEntry; dsimp only; split <;> rfl
@[simp] theorem grantEntry_peers (q : QueueEntry) (s : State) : (grantEntry q s).peers = s.peers := by
  unfold grantEntry; dsimp only; split <;> rfl
@[simp] theorem grantEntry_pending (q : QueueEntry) (s : State) : (grantEntry q s).pending = s.pending := by
  unfold grantEntry; dsimp only; split <;> rfl
@[simp] theorem grantEntry_link (q : QueueEntry) (s : State) : (grantEntry q s).link = s.link := by
  unfold grantEntry; dsimp only; split <;> rfl
@[simp] theorem grantEntry_mode (q : QueueEntry) (s : State) : (grantEntry q s).mode = s.mode := by
  unfold grantEntry; dsimp only; split <;> rfl
@[simp] theorem grantEntry_faults (q : QueueEntry) (s : State) : (grantEntry q s).faults = s.faults := by
  unfold grantEntry; dsimp only; split <;> rfl
@[simp] theorem grantEntry_svcs (q : QueueEntry) (s : State) : (grantEntry q s).svcs = s.svcs := by
  unfold grantEntry; dsimp only; split <;> rfl

@[simp] theorem handIntent_loader (s : State) : (handIntent s).loader = s.loader := rfl
@[simp] theorem handIntent_station (s : State) : (handIntent s).station = s.station := rfl
@[simp] theorem handIntent_config (s : State) : (handIntent s).config = s.config := rfl
@[simp] theorem handIntent_lines (s : State) : (handIntent s).lines = s.lines := rfl
@[simp] theorem handIntent_peers (s : State) : (handIntent s).peers = s.peers := rfl
@[simp] theorem handIntent_pending (s : State) : (handIntent s).pending = s.pending := rfl
@[simp] theorem handIntent_mode (s : State) : (handIntent s).mode = s.mode := rfl

/-- Folding over load points what leaves a reading leaves it. -/
theorem foldl_lps_frame {α : Type} (read : State → α) {g : State → LpId → State} (h : ∀ s i, read (g s i) = read s) :
    ∀ (l : List LpId) (s : State), read (l.foldl g s) = read s
  | [], _ => rfl
  | x :: xs, s => (foldl_lps_frame read h xs _).trans (h s x)

@[simp] theorem setForce_loader (v : SvcId) (on : Bool) (s : State) : (setForce v on s).loader = s.loader := by
  unfold setForce; dsimp only; split
  · exact (foldl_lps_frame State.loader (fun s i => by unfold shortAnswer; split <;> rfl) _ _).trans rfl
  · rfl
@[simp] theorem setForce_station (v : SvcId) (on : Bool) (s : State) : (setForce v on s).station = s.station := by
  unfold setForce; dsimp only; split
  · exact (foldl_lps_frame State.station (fun s i => by unfold shortAnswer; split <;> rfl) _ _).trans rfl
  · rfl
@[simp] theorem setForce_config (v : SvcId) (on : Bool) (s : State) : (setForce v on s).config = s.config := by
  unfold setForce; dsimp only; split
  · exact (foldl_lps_frame State.config (fun s i => by unfold shortAnswer; split <;> rfl) _ _).trans rfl
  · rfl
@[simp] theorem setForce_lines (v : SvcId) (on : Bool) (s : State) : (setForce v on s).lines = s.lines := by
  unfold setForce; dsimp only; split
  · exact (foldl_lps_frame State.lines (fun s i => by unfold shortAnswer; split <;> rfl) _ _).trans rfl
  · rfl
@[simp] theorem setForce_peers (v : SvcId) (on : Bool) (s : State) : (setForce v on s).peers = s.peers := by
  unfold setForce; dsimp only; split
  · exact (foldl_lps_frame State.peers (fun s i => by unfold shortAnswer; split <;> rfl) _ _).trans rfl
  · rfl
@[simp] theorem setForce_pending (v : SvcId) (on : Bool) (s : State) : (setForce v on s).pending = s.pending := by
  unfold setForce; dsimp only; split
  · exact (foldl_lps_frame State.pending (fun s i => by unfold shortAnswer; split <;> rfl) _ _).trans rfl
  · rfl

@[simp] theorem fire_loader (s : State) (d : Due) : (fire s d).loader = s.loader := by
  cases d <;> unfold fire <;>
    simp [State.setSvc, State.setProv, State.setChan]
  split <;> simp
@[simp] theorem fire_station (s : State) (d : Due) : (fire s d).station = s.station := by
  cases d <;> unfold fire <;>
    simp [State.setSvc, State.setProv, State.setChan]
  split <;> simp
@[simp] theorem fire_config (s : State) (d : Due) : (fire s d).config = s.config := by
  cases d <;> unfold fire <;>
    simp [State.setSvc, State.setProv, State.setChan]
  split <;> simp
@[simp] theorem fire_lines (s : State) (d : Due) : (fire s d).lines = s.lines := by
  cases d <;> unfold fire <;>
    simp [State.setSvc, State.setProv, State.setChan]
  split <;> simp
@[simp] theorem fire_peers (s : State) (d : Due) : (fire s d).peers = s.peers := by
  cases d <;> unfold fire <;>
    simp [State.setSvc, State.setProv, State.setChan]
  split <;> simp
@[simp] theorem fire_pending (s : State) (d : Due) : (fire s d).pending = s.pending := by
  cases d <;> unfold fire <;>
    simp [State.setSvc, State.setProv, State.setChan]
  split <;> simp

/-! ### What one consequence keeps of the blocks it does touch -/

/-- How far one operation of the channels, the balance or the rounds can move the mode controller, the round record,
the link, the fault unit and the units. -/
structure Keeps (s t : State) : Prop where
  mode : t.mode = { s.mode with plant := t.mode.plant }
  round : t.round = { s.round with
    queue := t.round.queue, nextSerial := t.round.nextSerial, outstanding := t.round.outstanding }
  link : t.link.counters = s.link.counters ∧ t.link.latch = s.link.latch ∧ t.link.heard = s.link.heard ∧
    t.link.silence = s.link.silence ∧ t.link.abandonRun = s.link.abandonRun
  faults : t.faults = s.faults ∨ t.faults = { s.faults with flags := s.faults.flags ||| EventClass.recalled.bit }
  units : ∀ i : LpId, t.chans[i].lockout = s.chans[i].lockout ∧ t.units[i].count = s.units[i].count ∧
    t.units[i].loaded = s.units[i].loaded ∧ t.units[i].lastDelta = s.units[i].lastDelta ∧
    t.units[i].lastPosition = s.units[i].lastPosition ∧ t.units[i].lastSign = s.units[i].lastSign ∧
    t.units[i].dirCount = s.units[i].dirCount

theorem Keeps.refl (s : State) : Keeps s s :=
  ⟨rfl, rfl, ⟨rfl, rfl, rfl, rfl, rfl⟩, .inl rfl, fun _ => ⟨rfl, rfl, rfl, rfl, rfl, rfl, rfl⟩⟩

theorem Keeps.trans {a b c : State} (h : Keeps a b) (h' : Keeps b c) : Keeps a c where
  mode := by rw [h'.mode, h.mode]
  round := by rw [h'.round, h.round]
  link := by
    have := h.link
    have := h'.link
    grind
  faults := by
    rcases h.faults with h1 | h1 <;> rcases h'.faults with h2 | h2 <;> rw [h2, h1] <;> simp [BitVec.or_assoc]
  units := fun i => by
    have := h.units i
    have := h'.units i
    grind

theorem enterFor_keeps (c : Option StartCause) (i : LpId) (st : LpState) (s : State) :
    Keeps s (enterFor c i st s) where
  mode := rfl
  round := rfl
  link := ⟨rfl, rfl, rfl, rfl, rfl⟩
  faults := .inl rfl
  units := fun j => by
    rw [enterFor_chans, enterFor_units]
    by_cases h : j = i
    · subst h
      have hf := entryFields_keeps s j c st (s.chans[j].moved st)
      have hu := follow_keeps s.units[j] st (s.unitMode j = .rotation) (s.reload j)
      simp only [if_true]
      exact ⟨hf.2.2.2.2.1, hu⟩
    · simp only [h, if_false, and_self]

theorem setChan_keeps (s : State) (i : LpId) (c : Chan) (h : c.lockout = s.chans[i].lockout) :
    Keeps s (s.setChan i c) where
  mode := rfl
  round := rfl
  link := ⟨rfl, rfl, rfl, rfl, rfl⟩
  faults := .inl rfl
  units := fun j => by
    simp only [State.setChan, State.withChans_chans, get_set_lp, State.withChans_units]
    by_cases hj : j = i
    · subst hj
      simp [h]
    · simp [hj]

theorem setProv_keeps (s : State) (i : LpId) (p : ProvBalance) : Keeps s (s.setProv i p) :=
  ⟨rfl, rfl, ⟨rfl, rfl, rfl, rfl, rfl⟩, .inl rfl, fun _ => ⟨rfl, rfl, rfl, rfl, rfl, rfl, rfl⟩⟩

theorem setSvc_keeps (s : State) (v : SvcId) (b : SvcBalance) : Keeps s (s.setSvc v b) :=
  ⟨rfl, rfl, ⟨rfl, rfl, rfl, rfl, rfl⟩, .inl rfl, fun _ => ⟨rfl, rfl, rfl, rfl, rfl, rfl, rfl⟩⟩

theorem queue_keeps (s : State) (q : List QueueEntry) (n : Nat) :
    Keeps s (s.withRound { s.round with queue := q, nextSerial := n }) :=
  ⟨rfl, rfl, ⟨rfl, rfl, rfl, rfl, rfl⟩, .inl rfl, fun _ => ⟨rfl, rfl, rfl, rfl, rfl, rfl, rfl⟩⟩

theorem plant_keeps (s : State) (m : PlantMode) : Keeps s (s.withMode { s.mode with plant := m }) :=
  ⟨rfl, rfl, ⟨rfl, rfl, rfl, rfl, rfl⟩, .inl rfl, fun _ => ⟨rfl, rfl, rfl, rfl, rfl, rfl, rfl⟩⟩

theorem withdraw_keeps (i : LpId) (s : State) : Keeps s (withdraw i s) :=
  (queue_keeps s _ _).trans (setChan_keeps _ _ _ rfl)

theorem post_keeps (i : LpId) (a : Action) (c : Cause) (s : State) : Keeps s (post i a c s) :=
  (queue_keeps s _ _).trans (setChan_keeps _ _ _ rfl)

theorem foldl_lps_keeps {g : State → LpId → State} (h : ∀ s i, Keeps s (g s i)) :
    ∀ (l : List LpId) (s : State), Keeps s (l.foldl g s)
  | [], s => Keeps.refl s
  | x :: xs, s => (h s x).trans (foldl_lps_keeps h xs _)

theorem nightAnswer_keeps (s : State) (i : LpId) : Keeps s (nightAnswer s i) := by
  have h := setChan_keeps s i { s.chans[i] with retry := (s.block i).retries.toNat, autoOff := false } rfl
  unfold nightAnswer
  split
  · dsimp only
    split
    · exact h.trans (enterFor_keeps none i .stopped _)
    · exact h
  · exact Keeps.refl s

theorem wakeAnswer_keeps (s : State) (i : LpId) : Keeps s (wakeAnswer s i) := by
  unfold wakeAnswer
  split
  · split
    · exact enterFor_keeps _ _ _ _
    · exact (queue_keeps s _ _).trans (setChan_keeps _ i _ rfl)
    all_goals first | exact enterFor_keeps _ _ _ _ | exact Keeps.refl s
  · exact Keeps.refl s

theorem dayAnswer_keeps (s : State) (i : LpId) : Keeps s (dayAnswer s i) := by
  unfold dayAnswer
  split
  · exact enterFor_keeps _ _ _ _
  · exact Keeps.refl s

theorem enterModes_keep (s : State) (m : PlantMode) : Keeps s (enterMode m s) := by
  cases m
  · exact (plant_keeps s .day).trans (foldl_lps_keeps dayAnswer_keeps lpIds _)
  · exact (plant_keeps s .night).trans (foldl_lps_keeps nightAnswer_keeps lpIds _)
  · exact (plant_keeps s .wake).trans (foldl_lps_keeps wakeAnswer_keeps lpIds _)

theorem grantEntry_keeps (q : QueueEntry) (s : State) : Keeps s (grantEntry q s) := by
  unfold grantEntry
  dsimp only
  split
  · exact enterFor_keeps _ _ _ _
  · exact enterFor_keeps _ _ _ _
  · exact withdraw_keeps _ _

theorem handIntent_keeps (s : State) : Keeps s (handIntent s) :=
  ⟨rfl, rfl, by simp [handIntent], .inl rfl, fun _ => ⟨rfl, rfl, rfl, rfl, rfl, rfl, rfl⟩⟩

theorem takeBack_keeps (i : LpId) (s : State) : Keeps s (takeBack i s) := by
  refine (enterFor_keeps none i .running s).trans ?_
  refine (setChan_keeps (enter i .running s) i
    { (enter i .running s).chans[i] with recalls := satSucc 255 (enter i .running s).chans[i].recalls } rfl).trans ?_
  exact ⟨rfl, rfl, ⟨rfl, rfl, rfl, rfl, rfl⟩, .inr rfl, fun _ => ⟨rfl, rfl, rfl, rfl, rfl, rfl, rfl⟩⟩

theorem shortAnswer_keeps (v : SvcId) (s : State) (i : LpId) : Keeps s (shortAnswer v s i) := by
  unfold shortAnswer
  split
  · exact enterFor_keeps _ _ _ _
  · exact Keeps.refl s

theorem setForce_keeps (v : SvcId) (on : Bool) (s : State) : Keeps s (setForce v on s) := by
  unfold setForce
  dsimp only
  split
  · exact (setSvc_keeps s v _).trans (foldl_lps_keeps (shortAnswer_keeps v) _ _)
  · exact setSvc_keeps s v _

/-- One consequence keeps what every operation of the channels, the balance and the rounds keeps. -/
theorem fire_keeps (s : State) (d : Due) : Keeps s (fire s d) := by
  cases d <;> unfold fire
  case takeBack i => exact takeBack_keeps i s
  case shortForce v on => exact setForce_keeps v on s
  case surplusReport i =>
    exact (setProv_keeps s i { s.provs[i] with reported := true }).trans
      (setChan_keeps _ i { s.chans[i] with surplusHeld := true } rfl)
  case surplusEnds i =>
    have h := setProv_keeps s i { s.provs[i] with reported := false }
    dsimp only
    split
    · exact (h.trans (setChan_keeps _ i { s.chans[i] with surplusHeld := false } rfl)).trans (withdraw_keeps i _)
    · exact h
  case leadLost i =>
    exact (setChan_keeps s i { s.chans[i] with leadT := .off } rfl).trans (withdraw_keeps i _)
  all_goals first
    | exact enterFor_keeps _ _ _ _
    | exact setProv_keeps _ _ _
    | exact setSvc_keeps _ _ _
    | exact setChan_keeps _ _ _ rfl
    | exact post_keeps _ _ _ _
    | exact enterModes_keep _ _
    | exact grantEntry_keeps _ _
    | exact handIntent_keeps _

end Sys2Proof.Machine
end

