-- ==== Sys2Proof/Laws/Peers.lean ====
section
/-! SUPPORT. The operations on the list of peer entries: what each leaves at an address, and that the list stays in
strictly ascending order of address. -/

namespace Sys2Proof.Machine

/-! ### Finding an entry -/

theorem findEntry_address {a : Byte} {es : List PeerEntry} {e : PeerEntry} (h : findEntry a es = some e) :
    e.address = a := by
  have := List.find?_some h
  simpa using this

theorem findEntry_mem {a : Byte} {es : List PeerEntry} {e : PeerEntry} (h : findEntry a es = some e) : e ∈ es :=
  List.mem_of_find?_eq_some h

theorem findEntry_placeEntry_self (e : PeerEntry) :
    ∀ es : List PeerEntry, findEntry e.address (placeEntry e es) = some e
  | [] => by simp [placeEntry, findEntry]
  | x :: xs => by
    have ih := findEntry_placeEntry_self e xs
    unfold placeEntry
    split
    · simp [findEntry]
    · split
      · simp [findEntry]
      · rename_i h
        have hx : (x.address == e.address) = false := by simpa using fun h' => h h'.symm
        rw [findEntry, List.find?_cons, hx]
        exact ih

theorem findEntry_placeEntry_ne (e : PeerEntry) {a : Byte} (ha : a ≠ e.address) :
    ∀ es : List PeerEntry, findEntry a (placeEntry e es) = findEntry a es
  | [] => by simp [placeEntry, findEntry, ha.symm]
  | x :: xs => by
    have ih := findEntry_placeEntry_ne e ha xs
    unfold placeEntry
    split
    · simp [findEntry, ha.symm]
    · split
      · rename_i h
        simp [findEntry, ha.symm, ← h]
      · simp only [findEntry, List.find?_cons] at ih ⊢
        split
        · rfl
        · exact ih

theorem findEntry_mapEntry (a b : Byte) (f : PeerEntry → PeerEntry) (hf : ∀ e, (f e).address = e.address) :
    ∀ es : List PeerEntry,
      findEntry b (mapEntry a f es) = (findEntry b es).map fun e => if e.address = a then f e else e
  | [] => rfl
  | x :: xs => by
    have ih := findEntry_mapEntry a b f hf xs
    simp only [mapEntry, findEntry, List.map_cons, List.find?_cons] at ih ⊢
    have hx : ((if x.address = a then f x else x).address == b) = (x.address == b) := by
      split
      · rw [hf]
      · rfl
    rw [hx]
    split
    · rfl
    · exact ih

/-! ### Order and size -/

/-- The addresses of a list in which an entry has been placed: the entry's and the old ones. -/
theorem mem_placeEntry {e x : PeerEntry} :
    ∀ {es : List PeerEntry}, x ∈ placeEntry e es → x = e ∨ x ∈ es
  | [], h => by simpa [placeEntry] using h
  | y :: ys, h => by
    unfold placeEntry at h
    split at h
    · simpa using h
    · split at h
      · rcases List.mem_cons.mp h with h | h
        · exact .inl h
        · exact .inr (List.mem_cons_of_mem _ h)
      · rcases List.mem_cons.mp h with h | h
        · exact .inr (by simp [h])
        · rcases mem_placeEntry h with h | h
          · exact .inl h
          · exact .inr (List.mem_cons_of_mem _ h)

/-- Placing an entry keeps strictly ascending order. -/
theorem placeEntry_pairwise (e : PeerEntry) :
    ∀ {es : List PeerEntry}, (es.map PeerEntry.address).Pairwise (· < ·) →
      ((placeEntry e es).map PeerEntry.address).Pairwise (· < ·)
  | [], _ => by simp [placeEntry]
  | x :: xs, h => by
    have hp := List.pairwise_cons.mp (List.map_cons ▸ h)
    unfold placeEntry
    split
    · rename_i hlt
      simp only [List.map_cons, List.pairwise_cons]
      refine ⟨fun a ha => ?_, by simpa using h⟩
      rcases List.mem_cons.mp ha with rfl | ha
      · exact hlt
      · exact BitVec.lt_trans hlt (hp.1 a ha)
    · split
      · rename_i _ heq
        simp only [List.map_cons, List.pairwise_cons]
        exact ⟨fun a ha => heq ▸ hp.1 a ha, hp.2⟩
      · rename_i hn hne
        simp only [List.map_cons, List.pairwise_cons]
        refine ⟨fun a ha => ?_, placeEntry_pairwise e hp.2⟩
        obtain ⟨y, hy, rfl⟩ := List.mem_map.mp ha
        rcases mem_placeEntry hy with rfl | hy
        · have hne' : ¬y.address.toNat = x.address.toNat := fun h' => hne (BitVec.eq_of_toNat_eq h')
          simp only [BitVec.lt_def] at hn ⊢
          omega
        · exact hp.1 _ (List.mem_map_of_mem hy)

/-- Placing an entry whose address is in the list keeps the length; a new one adds one. -/
theorem placeEntry_length_le (e : PeerEntry) :
    ∀ es : List PeerEntry, (placeEntry e es).length ≤ es.length + 1
  | [] => by simp [placeEntry]
  | x :: xs => by
    have := placeEntry_length_le e xs
    unfold placeEntry
    split
    · simp
    · split
      · simp
      · simp only [List.length_cons]
        omega

theorem placeEntry_length_of_mem {e : PeerEntry} :
    ∀ {es : List PeerEntry}, (es.map PeerEntry.address).Pairwise (· < ·) →
      (findEntry e.address es).isSome = true → (placeEntry e es).length = es.length
  | [], _, h => by simp [findEntry] at h
  | x :: xs, hp, h => by
    have hp' := List.pairwise_cons.mp (List.map_cons ▸ hp)
    unfold placeEntry
    split
    · rename_i hlt
      exfalso
      obtain ⟨y, hy⟩ := Option.isSome_iff_exists.mp h
      have hya := findEntry_address hy
      rcases List.mem_cons.mp (findEntry_mem hy) with rfl | hm
      · rw [hya] at hlt
        exact BitVec.lt_irrefl _ hlt
      · have := hp'.1 _ (List.mem_map_of_mem hm)
        rw [hya] at this
        exact BitVec.lt_irrefl _ (BitVec.lt_trans hlt this)
    · split
      · simp
      · rename_i hn hne
        have hx : (x.address == e.address) = false := by simpa using fun h' => hne h'.symm
        rw [findEntry, List.find?_cons, hx] at h
        simp [placeEntry_length_of_mem hp'.2 h]

theorem mapEntry_addresses (a : Byte) (f : PeerEntry → PeerEntry) (hf : ∀ e, (f e).address = e.address)
    (es : List PeerEntry) : (mapEntry a f es).map PeerEntry.address = es.map PeerEntry.address := by
  simp only [mapEntry, List.map_map]
  refine List.map_congr_left fun e _ => ?_
  simp only [Function.comp]
  split
  · exact hf e
  · rfl

theorem dropEntry_addresses (a : Byte) (es : List PeerEntry) :
    ((dropEntry a es).map PeerEntry.address).Sublist (es.map PeerEntry.address) :=
  List.filter_sublist.map _

/-! ### What a frame does to an entry keeps its address -/

theorem takeBeacon_address (seq : Byte) (msg : BeaconMsg) (e : PeerEntry) :
    (takeBeacon seq msg e).address = e.address := by
  unfold takeBeacon
  dsimp only
  split <;> rfl

theorem takePage_address (own : Option Configuration) (toggle : Byte) (page : PlanPage) (e : PeerEntry) :
    (takePage own toggle page e).address = e.address := by
  unfold takePage
  split
  · split <;> rfl
  · split
    · rfl
    · split
      · split
        · split <;> rfl
        · rfl
      · rfl

end Sys2Proof.Machine
end

