-- ==== Sys2Proof/Laws/Round.lean ====
section
/-! SUPPORT. What the operations of the own queue, of the round list and of the activity reports can do, said once. -/

namespace Sys2Proof.Machine

/-! ### The own intent queue (R120) -/

theorem mem_insertQueued {q x : QueueEntry} : ∀ {l : List QueueEntry}, x ∈ insertQueued q l ↔ x = q ∨ x ∈ l
  | [] => by simp [insertQueued]
  | y :: ys => by
    unfold insertQueued
    split
    · simp
    · simp only [List.mem_cons, mem_insertQueued]
      tauto

theorem insertQueued_perm (q : QueueEntry) : ∀ l : List QueueEntry, (insertQueued q l).Perm (q :: l)
  | [] => List.Perm.refl _
  | y :: ys => by
    unfold insertQueued
    split
    · exact List.Perm.refl _
    · exact ((insertQueued_perm q ys).cons y).trans (List.Perm.swap q y ys)

theorem mem_dropQueued {i : LpId} {x : QueueEntry} {l : List QueueEntry} :
    x ∈ dropQueued i l ↔ x ∈ l ∧ x.entry.lp ≠ i := by
  simp [dropQueued]

/-- Posting after a withdrawal keeps one entry for each load point. -/
theorem insertQueued_dropQueued_nodup {q : QueueEntry} {l : List QueueEntry}
    (h : (l.map fun x => x.entry.lp).Nodup) :
    ((insertQueued q (dropQueued q.entry.lp l)).map fun x => x.entry.lp).Nodup := by
  rw [((insertQueued_perm q (dropQueued q.entry.lp l)).map fun x => x.entry.lp).nodup_iff]
  simp only [List.map_cons, List.nodup_cons, List.mem_map, not_exists, not_and]
  refine ⟨fun x hx => (mem_dropQueued.mp hx).2, h.sublist (List.filter_sublist.map _)⟩

theorem dropQueued_nodup {i : LpId} {l : List QueueEntry} (h : (l.map fun x => x.entry.lp).Nodup) :
    ((dropQueued i l).map fun x => x.entry.lp).Nodup := h.sublist (List.filter_sublist.map _)

theorem queuedBefore_iff {a b : Entry} :
    queuedBefore a b = true ↔ b.level < a.level ∨ a.level = b.level ∧ a.lp < b.lp := by
  simp [queuedBefore]

/-- An entry is put before the first that it goes before, and the others keep their places. -/
theorem insertQueued_split (q : QueueEntry) : ∀ l : List QueueEntry, ∃ front back,
    l = front ++ back ∧ insertQueued q l = front ++ q :: back ∧
    (∀ x ∈ front, ¬queuedBefore q.entry x.entry = true) ∧
    ∀ x, back.head? = some x → queuedBefore q.entry x.entry = true
  | [] => ⟨[], [], rfl, rfl, by simp, by simp⟩
  | y :: ys => by
    unfold insertQueued
    split
    · exact ⟨[], y :: ys, rfl, rfl, by simp, by simpa⟩
    · obtain ⟨front, back, rfl, hq, hf, hb⟩ := insertQueued_split q ys
      exact ⟨y :: front, back, rfl, by simp [hq], by simpa [*] using hf, hb⟩

theorem queuedBefore_trans {a b c : Entry} (h : queuedBefore a b = true) (h' : queuedBefore b c = true) :
    queuedBefore a c = true := by
  simp only [queuedBefore_iff, Fin.lt_def] at *
  omega

theorem queuedBefore_total {a b : Entry} (hne : b.lp ≠ a.lp) (h : ¬queuedBefore a b = true) :
    queuedBefore b a = true := by
  simp only [queuedBefore_iff, Fin.lt_def, ne_eq, Fin.ext_iff] at *
  omega

/-- An entry of a load point that has none is put where the queue keeps its order. -/
theorem insertQueued_pairwise {q : QueueEntry} : ∀ {l : List QueueEntry}, (∀ x ∈ l, x.entry.lp ≠ q.entry.lp) →
    l.Pairwise (fun a b => queuedBefore a.entry b.entry = true) →
    (insertQueued q l).Pairwise fun a b => queuedBefore a.entry b.entry = true
  | [], _, _ => List.pairwise_singleton _ _
  | y :: ys, hq, h => by
    obtain ⟨hy, hys⟩ := List.pairwise_cons.mp h
    unfold insertQueued
    split <;> rename_i hb
    · refine List.pairwise_cons.mpr ⟨fun x hx => ?_, h⟩
      rcases List.mem_cons.mp hx with rfl | hx
      · exact hb
      · exact queuedBefore_trans hb (hy x hx)
    · refine List.pairwise_cons.mpr ⟨fun x hx => ?_,
        insertQueued_pairwise (fun x hx => hq x (List.mem_cons_of_mem _ hx)) hys⟩
      rcases mem_insertQueued.mp hx with rfl | hx
      · exact queuedBefore_total (hq y List.mem_cons_self) hb
      · exact hy x hx

/-! ### Entries taken into the round list (R126, R128) -/

/-- Taking one entry of a frame either counts it refused and leaves the list, or appends it. -/
theorem takeEntry_cases (src : Byte) (mismatched : Bool) (r : Round) (raw : RawEntry) :
    Round.takeEntry src mismatched r raw = { r with refused := satSucc 255 r.refused } ∨
    ∃ e, rawToEntry raw = some e ∧ mismatched = false ∧ r.holds src e.lp = false ∧ r.list.length < listCapacity ∧
      Round.takeEntry src mismatched r raw = { r with list := r.list ++ [{ station := src, entry := e, own := none }] } := by
  unfold Round.takeEntry
  cases h : rawToEntry raw with
  | none => exact .inl rfl
  | some e =>
    dsimp only
    split
    · exact .inl rfl
    · rename_i hc
      simp only [Bool.or_eq_true, decide_eq_true_eq, not_or, Bool.not_eq_true, not_le] at hc
      exact .inr ⟨e, rfl, hc.1.1, hc.1.2, hc.2, rfl⟩

/-- Entering one entry of the own frame appends it while there is room, else counts it refused. -/
theorem enterOwn_cases (r : Round) (e : ListEntry) :
    (r.list.length < listCapacity ∧ r.enterOwn e = { r with list := r.list ++ [e] }) ∨
    (listCapacity ≤ r.list.length ∧ r.enterOwn e = { r with refused := satSucc 255 r.refused }) := by
  unfold Round.enterOwn
  split
  · exact .inl ⟨‹_›, rfl⟩
  · exact .inr ⟨by omega, rfl⟩

theorem holds_eq_false {r : Round} {station : Byte} {i : LpId} :
    r.holds station i = false ↔ ∀ e ∈ r.list, e.station = station → e.entry.lp ≠ i := by
  simp [Round.holds]

/-! ### The sorted list and the walk (R129) -/

theorem insertSorted_perm (e : ListEntry) : ∀ l : List ListEntry, (insertSorted e l).Perm (e :: l)
  | [] => List.Perm.refl _
  | x :: xs => by
    unfold insertSorted
    split
    · exact List.Perm.refl _
    · exact ((insertSorted_perm e xs).cons x).trans (List.Perm.swap e x xs)

theorem walk_fst (b : Nat) (figs : FigureTable) : ∀ (l : List ListEntry) (w : Walk), (walk b figs w l).1.map Prod.fst = l
  | [], _ => rfl
  | e :: es, w => by
    simp only [walk, List.map_cons, walk_fst b figs es]

theorem viewDenial_fst (b : Bool) (x : ListEntry × EntryOutcome) : (viewDenial b x).1 = x.1 := by
  unfold viewDenial
  split <;> rfl

/-- A view denial turns no start back. -/
theorem viewDenial_of_start (b : Bool) {x : ListEntry × EntryOutcome} (h : x.1.entry.action = .start) :
    viewDenial b x = x := by
  simp [viewDenial, h]

/-- The service tests skip a start and leave the sums, or grant it and add it to them (R131, R132). -/
theorem serviceTests_cases (figs : FigureTable) (w : Walk) (e : Entry) :
    (serviceTests figs w e = (.skippedDemand, w) ∧ ¬∀ d ∈ e.demands, pairPasses figs w d = true) ∨
    (serviceTests figs w e = (.skippedNotNeeded, w) ∧ (∀ d ∈ e.demands, pairPasses figs w d = true) ∧
      notNeeded figs w e = true) ∨
    (serviceTests figs w e = (.granted, w.grantStart figs e) ∧ (∀ d ∈ e.demands, pairPasses figs w d = true) ∧
      notNeeded figs w e = false) := by
  by_cases h : ∀ d ∈ e.demands, pairPasses figs w d = true
  · cases hn : notNeeded figs w e
    · exact .inr (.inr ⟨by simp [serviceTests, hn, List.all_eq_true.2 h], h, rfl⟩)
    · exact .inr (.inl ⟨by simp [serviceTests, hn, List.all_eq_true.2 h], h, rfl⟩)
  · have ha : e.demands.all (pairPasses figs w) = false := by
      rw [← Bool.not_eq_true, List.all_eq_true]; exact h
    exact .inl ⟨by simp [serviceTests, ha], h⟩

/-! ### Activity (R31, R43) -/

/-- Everything a report of activity can do: an armed timer reloads, and a channel in STOP_PENDING that is no follower
returns to IDLE_WATCH. -/
theorem reportActivity_eq (i : LpId) (s : State) :
    reportActivity i s =
      (let u := s.withUnits (s.units.set i { s.units[i] with
          idle := if s.units[i].armed then s.reload i else s.units[i].idle
          expiryReported := !s.units[i].armed && s.units[i].expiryReported })
        if s.chans[i].state = .stopPending ∧ s.isFollower i = false then settle (enter i .idleWatch u) else u) := by
  unfold reportActivity
  generalize hu : s.units[i] = u
  obtain ⟨⟩ := u
  rename_i armed _ _ _ _ _ _ _ _
  cases armed
  · have e : s.withUnits (s.units.set i s.units[i]) = s := by simp [-Fin.getElem_fin]
    rw [hu] at e
    simp [e, -Fin.getElem_fin]
  · simp [State.setUnit, -Fin.getElem_fin]

end Sys2Proof.Machine
end

