-- ==== Sys2Proof/Tests/Slice0.lean ====
section
/-! SUPPORT. The model's own tests: the check of ill-formed commands, the worked examples of the manual, and for
every statement with hypotheses a state and operands that meet them. -/

set_option Elab.async false

namespace Sys2Proof.Tests

open Sys2Proof.Machine

/-! ### A small plant -/

/-- A load point in use: HANDSHAKE, no activity input, level 3. -/
def lpBase : LpBlock :=
  { LpBlock.blank with
    inUse := 1, idleLimit := 900, level := 3, leader := 255, provides := 255, startSettle := 5, inrush := 60,
    grantTimeout := 60, feedbackTimeout := 10, retries := 2, reportOnExhaust := 1, coastLimit := 300,
    standstillThreshold := 4, standstillSamples := 3, startTimeout := 15 }

/-- Service S2 of the manual's examples: margin 15, Cmin 150. -/
def svc2 : ServiceBlock := { inUse := 1, margin := 15, cmin := 150, surplusHold := 600, shortfallConfirm := 20 }

def planBase : PlanBlock := { planNumber := 77, w := 400, g := 200, b := 100 }

/-- LP0 a stroke unit that leads LP6; LP1 a low-loaded unit; LP2 a press that demands S2 and leads its pump LP3; LP4 a
DIRECT provider of S2; LP5 a load point excluded on exhaustion; LP6 a DIRECT follower; LP7 unused. -/
def blocks : Vector LpBlock 8 :=
  #v[{ lpBase with activityMode := 1 },
    { lpBase with activityMode := 2, loadPolarity := 1 },
    { lpBase with activityMode := 3, leadTime := 20, pairCount := 1, pair0 := ⟨2, 30⟩ },
    { lpBase with control := 1, activityMode := 4, leader := 2, runOn := 180 },
    { lpBase with control := 1, activityMode := 1, edge := 1, provides := 2, capacity := 80, level := 5 },
    { lpBase with activityMode := 1, edge := 2, reportOnExhaust := 0 },
    { lpBase with control := 1, activityMode := 2, leader := 0 },
    LpBlock.blank]

def cfg : Configuration :=
  { plan := planBase, services := (Vector.replicate 12 serviceBlank).set 2 svc2, lps := blocks }

/-- A station that holds the plant's configuration, in the given modes, with every load point in RUNNING. -/
def work (st : StationState) (m : PlantMode) : State :=
  { State.reset with
    loader := { State.reset.loader with phase := .done, status := some .good }
    station := { StationFields.default with address := some 9 }
    config := some cfg
    chans := (Vector.replicate 8 (Chan.powerOn .running 2)).set 7 (Chan.powerOn .unused 0)
    mode := { State.reset.mode with
      station := some st, plant := m, nightLevel := some (m == .night), beaconT := .running 2000000 } }

def day : State := work .active .day
def night : State := work .active .night
def listen : State := (work .listenIn .day).withMode { (work .listenIn .day).mode with listenIn := .running 8000000 }
def conflict : State := work .addressConflict .day

/-- A station whose load was rejected after its station block was read. -/
def passive : State :=
  { State.reset with
    loader := { State.reset.loader with phase := .done, status := some .rejected }
    station := { StationFields.default with address := some 9 }
    mode := { State.reset.mode with station := some .passive } }

def put (st : LpState) (i : LpId) (s : State) : State := enter i st s
def chan (i : LpId) (f : Chan → Chan) (s : State) : State := s.setChan i (f s.chans[i])
def unit (i : LpId) (f : ActUnit → ActUnit) (s : State) : State := s.setUnit i (f s.units[i])
def line (i : LpId) (f : Lines → Lines) (s : State) : State := s.setLines i (f s.lines[i])
def prov (i : LpId) (f : ProvBalance → ProvBalance) (s : State) : State := s.setProv i (f s.provs[i])
def link (f : Link → Link) (s : State) : State := s.withLink (f s.link)
def peers (es : List PeerEntry) (s : State) : State := s.withEntries es

/-- What a command answers; the tests run commands that complete. -/
def run (c : Instr) (s : State) : State :=
  match exec c s with
  | .next t => t
  | _ => State.reset

/-- A matched peer that is fresh. -/
def peer (a : Byte) : PeerEntry :=
  { PeerEntry.created a with planState := .matched, mode := some .day, interval := some 2, lastSeq := some 250
                             age := .running 8000000 }

/-- A full table: the stations 10 to 41. -/
def crowd : List PeerEntry := (List.range 32).map fun k => peer (BitVec.ofNat 8 (10 + k))

def frameOf (o : Origin) : OutFrame := { origin := o, frame := ⟨1, 9, 255, 0, []⟩ }
def sendingOf (o : Origin) (p : TxPhase) (n : Nat) : Sending := { out := frameOf o, phase := p, attempts := n }

def stopEntry : Entry :=
  { lp := 4, action := .stop, cause := .night, level := 5, provides := some 2, capacity := 80, inrush := 60, demands := [] }
def startEntry (level inrush : Nat) (i : LpId) : Entry :=
  { lp := i, action := .start, cause := .wake, level, provides := none, capacity := 0, inrush, demands := [] }
def rawStart : RawEntry :=
  { lp := 1, action := 1, cause := 1, level := 3, provides := 255, capacity := 0, inrush := 60, pairCount := 0
    pair0 := ⟨0, 0⟩, pair1 := ⟨0, 0⟩, pair2 := ⟨0, 0⟩ }

def quietBeacon : BeaconMsg :=
  { mode := .night, nightLine := true, planRequest := false, viewOverflow := false, isolated := false, interval := 2
    alertClass := 0, alertLevel := 0, figures := [⟨2, 40, 120⟩] }

/-! ### The image of the plant -/

def imageOf (address : Byte) (p : PlanBlock) (svc : SvcId → ServiceBlock) (lp : LpId → LpBlock) : List Byte :=
  ([address, 2, 0, 4, 5, 7, 6, 6, 6, 4, 3, 1, 2] : List Byte) ++ planBytes p ++ svcIds.flatMap (fun v => serviceBytes (svc v)) ++
    lpIds.flatMap fun i => lpBytes (lp i)

def image : List Byte := imageOf 9 planBase (fun v => cfg.services[v]) fun i => blocks[i]

/-- Every limited field of the plan, S2 and LP4 at the top of its range. -/
def imageTop : List Byte :=
  imageOf 60 ⟨77, 2000, 2000, 1023⟩
    (fun v => if v = 2 then { svc2 with margin := 100, surplusHold := 3600, shortfallConfirm := 60 } else serviceBlank)
    fun i => if i = 4 then
        { blocks[i] with capacity := 4000, idleLimit := 7200, level := 7, runOn := 600, leadTime := 600, startTimeout := 120
                         startSettle := 120, retries := 7, feedbackTimeout := 60 }
      else LpBlock.blank

/-- The same fields above or below their ranges. -/
def imageOver : List Byte :=
  imageOf 1 ⟨77, 99, 2001, 0⟩
    (fun v => if v = 2 then { svc2 with margin := 101, surplusHold := 9, shortfallConfirm := 0 } else serviceBlank)
    fun i => if i = 4 then
        { blocks[i] with capacity := 4001, idleLimit := 7201, level := 8, runOn := 601, leadTime := 601, startTimeout := 121
                         startSettle := 0, retries := 8, feedbackTimeout := 61 }
      else LpBlock.blank

/-- A bad station address, and a follower of an unused load point. -/
def imageBadStation : List Byte := imageOf 0 planBase (fun v => cfg.services[v]) fun i => blocks[i]
def imageBadLeader : List Byte :=
  imageOf 9 planBase (fun v => cfg.services[v]) fun i => if i = 6 then { blocks[i] with leader := 7 } else blocks[i]

def atBody (body : List Byte) : State :=
  State.reset.withLoader { State.reset.loader with phase := .body (bodySum body) }

/-! ### Ill-formed commands are refused by the check, one for each check -/

theorem test_short_body_is_ill_formed : (Instr.bodyRead (image.take 376)).wellFormed = false := by decide +kernel
theorem test_beacon_from_61_is_ill_formed : (Instr.beacon 61 0 quietBeacon).wellFormed = false := by decide +kernel
theorem test_beacon_of_13_figures_is_ill_formed :
    (Instr.beacon 10 0 { quietBeacon with figures := List.replicate 13 ⟨2, 0, 0⟩ }).wellFormed = false := by decide +kernel
theorem test_plan_from_0_is_ill_formed :
    (Instr.plan 0 0 (.later 1 ⟨svc2, svc2, svc2, svc2⟩)).wellFormed = false := by decide +kernel
theorem test_short_page_0_is_ill_formed :
    (Instr.plan 10 0 (.later 0 ⟨svc2, svc2, svc2, svc2⟩)).wellFormed = false := by decide +kernel
theorem test_intent_from_0_is_ill_formed : (Instr.intent 0 1 [rawStart]).wellFormed = false := by decide +kernel
theorem test_intent_without_entry_is_ill_formed : (Instr.intent 10 1 []).wellFormed = false := by decide +kernel
theorem test_intent_of_5_entries_is_ill_formed :
    (Instr.intent 10 1 (List.replicate 5 rawStart)).wellFormed = false := by decide +kernel
theorem test_reply_from_0_is_ill_formed : (Instr.reply 0).wellFormed = false := by decide +kernel
theorem test_age_timer_of_61_is_ill_formed : (Instr.ageTimerExpiry 61).wellFormed = false := by decide +kernel
theorem test_answer_hold_of_0_is_ill_formed : (Instr.answerHoldExpiry 0).wellFormed = false := by decide +kernel
theorem test_table_7_is_no_bad_table : (Instr.badTable 0 7 0 0).wellFormed = false := by decide +kernel
theorem test_directive_1_is_no_bad_directive : (Instr.badDirective 0 1 0).wellFormed = false := by decide +kernel
theorem test_both_phases_of_an_odd_line_are_ill_formed :
    (Instr.bothPhasesChange 3 true true).wellFormed = false := by decide +kernel

/-! ### No table word spells a command; a frame on the link does (R69, R71, R78, chapter 11) -/

theorem test_no_table_word : decodeTableWord 32 7 = none := rfl
/-- R69's worked value: the character 0x01. -/
theorem test_crc_of_01 : crc [1] = 0x7078 := by decide +kernel
/-- CLEAR_FAULT of LP0 and the station record, written byte by byte from sections 11.2 and 11.3. -/
theorem test_directive_frame :
    commandOf (some 9) (let b : List Byte := [9, 0, 9, 33, 3, 1, 1, 1]; b ++ le 2 (crc b).toNat) = .clearFault 33 1 true := by
  decide +kernel
theorem test_inquiry_frame_of_another :
    commandOf (some 9) (let b : List Byte := [8, 0, 10, 33, 3, 1, 0, 1]; b ++ le 2 (crc b).toNat) = .foreignToolFrame := by
  decide +kernel
/-- A beacon of station 10 in NIGHT with its NIGHT input asserted, interval 2, S2 demand 40 and capacity 120. -/
theorem test_beacon_frame :
    commandOf (some 9) (let b : List Byte := [1, 10, 255, 7, 9, 0x12, 2, 0, 1, 2, 40, 0, 120, 0]
      b ++ le 2 (crc b).toNat) = .beacon 10 7 quietBeacon := by decide +kernel
/-- The INTENT frame of an entry with three demand pairs reads back as that entry. -/
theorem test_intent_frame_reads_back :
    let e := { stopEntry with demands := [(2, 30), (0, 1), (11, 255)] }
    (match commandOf (some 9) (Frame.mk kindIntent 10 broadcast 3 (intentPayload [e])).wire with
      | .intent 10 3 raws => raws.map rawToEntry
      | _ => []) = [some e] := by decide +kernel
theorem test_own_address_frame :
    commandOf (some 10) (let b : List Byte := [1, 10, 255, 7, 9, 0x12, 2, 0, 1, 2, 40, 0, 120, 0]
      b ++ le 2 (crc b).toNat) = .addressConflict := by decide +kernel
theorem test_bad_crc_frame : commandOf none [1, 10, 255, 7, 0, 0, 0] = .crcError := by decide +kernel
theorem test_payload_of_65 : commandOf none [1, 10, 255, 7, 65] = .receptionEndedEarly := by decide +kernel

/-! ### Witnesses: for each statement with hypotheses, a state and operands that meet them, clause by clause -/

/-- A unit with a filtered level on its line. -/
def acted (i : LpId) (high : Bool) (s : State) : State := line i (fun l => { l with act := some high }) s

theorem witness_IdleStepMovesTimersOnly :
    day.pending = [] ∧ day.mode.beaconT = .running 2000000 ∧
    (chan 0 (fun c => { c with stopT := .running 1 }) day).pending = [] ∧
    (link (fun l => { l with silence := .running 1 }) day).link.silence = .running 1 ∧
    (let s := prov 4 (fun p => { p with timer := .running 599999999 }) day;
      s.provided 4 = some 2 ∧ (s.svcBlock 2).surplusHold = 600 ∧ s.pending = []) := by decide +kernel

theorem witness_LoadersReadOrReject :
    (let s := State.reset.withLoader { State.reset.loader with failures := 1 };
      s.loader.phase ≠ .done ∧ s.loader.failures < 2) ∧
    (State.reset.loader.phase = .header ∧ (377 : Half).toNat = 377) ∧
    ((atBody image).loader.phase = .body (bodySum image) ∧ (image.take 376).length < 377) ∧
    (let s := State.reset.withLoader { State.reset.loader with failures := 2 };
      s.loader.phase ≠ .done ∧ 2 ≤ s.loader.failures) ∧
    ((2 : Byte) ≠ 1 ∨ (377 : Half).toNat ≠ 377) ∧ ((1 : Byte) ≠ 1 ∨ (378 : Half).toNat ≠ 377) ∧
    (image.length = 377 ∧ bodySum image ≠ 0) ∧
    (imageBadStation.length = 377 ∧ stationError (rawImage imageBadStation) = some (1, .station)) ∧
    (imageBadLeader.length = 377 ∧ stationError (rawImage imageBadLeader) = none ∧
      laterError (rawImage imageBadLeader) = some (10, .loadPoint 6)) := by decide +kernel

/-- Whether an image is accepted, and with how many clamps. -/
def marksAccepted (body : List Byte) : Option Nat :=
  match checkBody (bodySum body) body with
  | .accepted _ _ marks => some marks.length
  | _ => none

theorem witness_LoadEndsGood :
    (atBody image).loader.phase = .body (bodySum image) ∧ image.length = 377 ∧
    checkBody (bodySum image) image = .accepted day.station cfg [] ∧ marksAccepted imageOver = some 15 ∧
    (atBody image).link.waitBeacon = none ∧
    (let s := (atBody image).withLoader { (atBody image).loader with warm := true, replySeq := some 33 };
      s.loader.phase = .body (bodySum image) ∧ s.link.waitBeacon = none) := by
  decide +kernel

theorem witness_AcceptedImagesAreSound :
    marksAccepted imageTop = some 0 ∧ marksAccepted imageOver = some 15 ∧
    checkBody (bodySum image) image = .accepted day.station cfg [] := by decide +kernel

theorem witness_ConfigurationChangesOnlyAtALoad : isLoaderCommand .uptimeTick = false ∧
    exec .uptimeTick day = .next (day.withFaults { day.faults with uptime := day.faults.uptime + 1 }) :=
  ⟨rfl, rfl⟩

theorem witness_StrokeEdgesCount :
    (let s := acted 0 false day;
      s.loaded = true ∧ s.unitMode 0 = .stroke ∧ s.lines[(0 : LpId)].act = some false ∧ (s.block 0).edge = 0 ∧
        s.chans[(0 : LpId)].state ≠ .stopPending) ∧
    (let s := acted 0 true day;
      s.loaded = true ∧ s.unitMode 0 = .stroke ∧ s.lines[(0 : LpId)].act = some true ∧ (s.block 0).edge = 0) ∧
    (let s := acted 4 true (put .stopPending 4 night);
      s.loaded = true ∧ s.unitMode 4 = .stroke ∧ s.lines[(4 : LpId)].act = some true ∧ (s.block 4).edge = 1 ∧
        s.chans[(4 : LpId)].state = .stopPending ∧ s.isFollower 4 = false) ∧
    (let s := acted 5 true day;
      s.loaded = true ∧ s.unitMode 5 = .stroke ∧ s.lines[(5 : LpId)].act = some true ∧ (s.block 5).edge = 2) := by
  decide +kernel

theorem witness_LoadLevelChangesCount :
    (let s := acted 1 true day;
      s.loaded = true ∧ s.unitMode 1 = .loadLevel ∧ s.lines[(1 : LpId)].act = some true ∧
        (s.block 1).loadPolarity = 1 ∧ s.units[(1 : LpId)].loaded ≠ some true) ∧
    (let s := acted 1 true (put .stopPending 1 night);
      s.loaded = true ∧ s.unitMode 1 = .loadLevel ∧ s.chans[(1 : LpId)].state = .stopPending ∧ s.isFollower 1 = false) ∧
    (let s := acted 6 true day;
      s.loaded = true ∧ s.unitMode 6 = .loadLevel ∧ s.lines[(6 : LpId)].act = some true ∧
        (s.block 6).loadPolarity = 0) := by decide +kernel

theorem witness_QuadratureEdgesStep :
    (let s := acted 2 false day;
      s.loaded = true ∧ s.lines[(2 : LpId)].act = some false ∧ s.unitMode 2 = .rotation ∧
        s.lines[partner 2].act = none) ∧
    (let s := acted 2 false (acted 3 true day);
      s.loaded = true ∧ s.lines[(3 : LpId)].act = some true ∧ s.unitMode 3 = .paired ∧
        s.unitMode (partner 3) = .rotation ∧ s.lines[partner 3].act = some false ∧
        s.lines[partner 2].act = some true) := by decide +kernel

theorem witness_RotationSamples :
    (day.loaded = true ∧ day.unitMode 2 = .rotation) ∧
    (let s := unit 2 (fun u => { u with count := 65531, lastPosition := 0, lastSign := some .plus }) (put .stopPending 2 night);
      s.unitMode 2 = .rotation ∧ s.units[(2 : LpId)].coasting = false ∧ s.chans[(2 : LpId)].state = .stopPending ∧
        s.isFollower 2 = false ∧ (s.units[(2 : LpId)].count - s.units[(2 : LpId)].lastPosition).toInt < 0) ∧
    (let s := unit 2 (fun u => { u with count := 5, lastSign := some .minus, armed := true }) day;
      s.unitMode 2 = .rotation ∧ s.units[(2 : LpId)].coasting = false ∧
        (s.block 2).standstillThreshold.toNat < (s.units[(2 : LpId)].count - 0).toInt.natAbs) ∧
    (let s := unit 2 (fun u => { u with count := 4, runCount := 2 }) (put .coasting 2 night);
      s.unitMode 2 = .rotation ∧ s.units[(2 : LpId)].coasting = true ∧ s.chans[(2 : LpId)].state = .coasting ∧
        (s.block 2).standstillSamples.toNat = 3) := by decide +kernel

theorem witness_IdleTimersRunDown :
    (let s := unit 0 (fun u => { u with idle := 2 }) (put .idleWatch 0 night);
      s.units[(0 : LpId)].armed = true ∧ s.units[(0 : LpId)].expiryReported = false ∧ s.unitMode 0 ≠ .loadLevel ∧
        1 < s.units[(0 : LpId)].idle) ∧
    (let s := unit 1 (fun u => { u with idle := 1, loaded := some true }) (put .idleWatch 1 night);
      s.units[(1 : LpId)].armed = true ∧ s.unitMode 1 = .loadLevel ∧ s.units[(1 : LpId)].loaded = some true) ∧
    (let s := unit 4 (fun u => { u with idle := 1 }) (put .idleWatch 4 night);
      s.units[(4 : LpId)].armed = true ∧ s.units[(4 : LpId)].expiryReported = false ∧ s.isProvider 4 = true ∧
        s.chans[(4 : LpId)].state = .idleWatch ∧ s.units[(4 : LpId)].idle ≤ 1) ∧
    (let s := unit 0 (fun u => { u with armed := true, idle := 1 }) night;
      s.units[(0 : LpId)].armed = true ∧ s.units[(0 : LpId)].expiryReported = false ∧ s.unitMode 0 ≠ .loadLevel ∧
        s.units[(0 : LpId)].idle ≤ 1 ∧ s.chans[(0 : LpId)].state ≠ .idleWatch) := by decide +kernel

/-- The night with every consequence taken: LP0, LP1, LP2, LP4 and LP5 are watched, the followers run. -/
def nightQuiet : State := settle night

theorem witness_NothingDueMeansSettled : Quiet nightQuiet ∧ nightQuiet.deciding = true ∧
    nightQuiet.nightSignal = true ∧ nightQuiet.leader 6 = some 0 ∧ Quiet (settle (put .stopped 2 (put .stopped 3 day))) := by
  decide +kernel

theorem witness_PlantModeEntries : night.inUse 0 = true ∧
    (let s := (put .startPending 0 night).setChan 0 { (put .startPending 0 night).chans[(0 : LpId)] with cause := some .wake };
      s.inUse 0 = true ∧ s.chans[(0 : LpId)].state = .startPending ∧ s.chans[(0 : LpId)].cause = some .wake) ∧
    (put .stopped 0 night).chans[(0 : LpId)].state = .stopped := by decide +kernel

theorem witness_MachineLineEdges :
    (day.loaded = true ∧ day.runPresent 0 = false ∧ day.grantPresent 0 = false ∧ day.handPresent 0 = false ∧
      day.inUse 0 = true ∧ day.inUse 7 = false ∧ day.handPresent 7 = false) ∧
    (let s := line 0 (fun l => { l with run := some true, grant := some true, hand := some true }) (put .manual 0 day);
      s.loaded = true ∧ s.runPresent 0 = true ∧ s.grantPresent 0 = true ∧ s.handPresent 0 = true ∧
        s.chans[(0 : LpId)].state = .manual) ∧
    (line 7 (fun l => { l with hand := some true }) day).handPresent 7 = true ∧
    (let s := line 0 (fun l => { l with hand := some true }) day;
      s.loaded = true ∧ s.handPresent 0 = true ∧ s.chans[(0 : LpId)].state ≠ .manual) := by decide +kernel

/-- The stops of LP0 and LP5, and of the press LP2 with its pump LP3 still running, are requested. -/
def stopping : State :=
  settle (put .stopRequested 0 (put .stopRequested 5 (put .stopRequested 3 (put .stopRequested 2
    (line 3 (fun l => { l with run := some true }) night)))))
/-- LP2 is stopped with its grant, LP3 without its contactor. -/
def stopped : State :=
  settle (line 2 (fun l => { l with grant := some true }) (put .stopped 3 (put .stopped 2 night)))

def rise (l : Lines) : Lines := { l with run := some true, grant := some true }
/-- LP5 bids for its start; LP4 waits to stop with S2 covered by a peer. -/
def bidding (s : State) : State := enterFor (some .wake) 5 .startPending s
def covered (p : ProvBalance) : State :=
  prov 4 (fun _ => p) (put .stopPending 4 (peers [{ peer 10 with figures := [⟨2, 0, 400⟩] }]
    (nightQuiet.setSvc 2 SvcBalance.clear)))
def waiting (st : StationState) : State :=
  (chan 5 (fun c => { c with entryQueued := true }) (bidding (settle (work st .day)))).withRound
    { Round.reset with nextSerial := 1, queue := [⟨0, startEntry 3 60 5⟩] }

/-- For each rule a state in which it is the one whose consequence is taken. -/
theorem witness_ConsequencesAreDue :
    due (line 4 rise (put .stopped 4 night)) = some (.takeBack 4) ∧
    due (line 0 rise (put .stopRequested 0 day)) = some (.confirm 0) ∧
    due (put .stopped 6 day) = some (.release 6 .starting) ∧ due (put .stopPending 3 day) = some (.release 3 .running) ∧
    due (enterFor (some .wake) 0 .startPending (put .stopped 6 day)) = some (.call 6 (some .wake)) ∧
    due (put .startPending 0 (put .stopPending 6 day)) = some (.callOut 6) ∧
    due night = some (.goIdle 0 .idleWatch) ∧
    due (line 0 rise (put .stopped 0 nightQuiet)) = some (.goIdle 6 .stopPending) ∧
    due (chan 3 (fun c => { c with runOnDone := true }) (put .stopPending 3 stopped)) = some (.runOnStop 3) ∧
    due day = some (.shortBegins 2) ∧
    due (day.setSvc 2 { timer := .expired, confirmed := true, inForce := true }) = some (.shortForce 2 false) ∧
    due (put .stopped 4 (nightQuiet.setSvc 2 { timer := .expired, confirmed := true, inForce := false })) =
      some (.shortForce 2 true) ∧
    due ((covered ProvBalance.clear).setSvc 2 { SvcBalance.clear with timer := .running 0 }) = some (.shortCeases 2) ∧
    due (covered ProvBalance.clear) = some (.surplusBegins 4) ∧
    due (prov 4 (fun p => { p with timer := .running 0 }) nightQuiet) = some (.surplusCeases 4) ∧
    due (covered { timer := .expired, established := true, reported := false }) = some (.surplusReport 4) ∧
    due (covered { timer := .running 5, established := false, reported := true }) = some (.surplusEnds 4) ∧
    due (enterFor (some .shortfall) 4 .startPending nightQuiet) = some (.callOff 4) ∧
    due (line 5 rise (put .stopped 5 (nightQuiet.withMode { nightQuiet.mode with plant := .wake }))) =
      some (.bid 5 .wake) ∧
    due (put .stopped 4 (nightQuiet.setSvc 2 { timer := .expired, confirmed := true, inForce := true })) =
      some (.bid 4 .shortfall) ∧
    due (line 3 rise (put .startPending 2 nightQuiet)) = some (.leadBegins 2) ∧
    due (chan 2 (fun c => { c with leadT := .expired }) (put .startPending 2 nightQuiet)) = some (.leadLost 2) ∧
    due (chan 4 (fun c => { c with surplusHeld := true })
      (covered { timer := .expired, established := true, reported := true })) = some (.postStop 4) ∧
    due (bidding nightQuiet) = some (.postStart 5) ∧
    due ((settle day).withMode { day.mode with nightLevel := some true }) = some (.enters .night) ∧
    due (waiting .addressConflict) = some (.stagger ⟨0, startEntry 3 60 5⟩) ∧
    due (waiting .active) = some .handIntent := by decide +kernel

theorem witness_MachineAnswersTheStop :
    (stopping.loaded = true ∧ Quiet stopping ∧ stopping.inUse 0 = true ∧
      stopping.chans[(0 : LpId)].state = .stopRequested ∧ (stopping.block 0).control = 0 ∧
      stopping.grantPresent 0 = false) ∧
    (stopping.inUse 3 = true ∧ stopping.chans[(3 : LpId)].state = .stopRequested ∧ (stopping.block 3).control ≠ 0 ∧
      stopping.runPresent 3 = true) ∧
    (stopped.loaded = true ∧ Quiet stopped ∧ stopped.inUse 2 = true ∧ stopped.chans[(2 : LpId)].state = .stopped ∧
      (stopped.block 2).control = 0 ∧ stopped.grantPresent 2 = true) ∧
    (stopped.inUse 3 = true ∧ (stopped.block 3).control ≠ 0 ∧ stopped.chans[(3 : LpId)].state = .stopped ∧
      stopped.runPresent 3 = false) := by decide +kernel

theorem witness_FirstLevelsAreTaken :
    day.loaded = true ∧ day.lines[(0 : LpId)] = Lines.reset ∧ day.lines[(6 : LpId)].act = none ∧
    day.unitMode 6 = .loadLevel ∧
    (let s := put .idleWatch 1 night;
      s.lines[(1 : LpId)].act = none ∧ s.unitMode 1 = .loadLevel ∧ s.units[(1 : LpId)].armed = true ∧
        (s.block 1).loadPolarity = 1) := by decide +kernel

theorem witness_ReadBackWatch :
    (day.loaded = true ∧ day.lines[(0 : LpId)].stoprb ≠ some true ∧ day.inUse 0 = true ∧
      true ≠ day.stopLine 0 ∧ day.chans[(0 : LpId)].watch.isRunning = false ∧ day.chans[(0 : LpId)].lockout ≠ .hard) ∧
    (chan 0 (fun c => { c with lockout := .hard }) day).chans[(0 : LpId)].lockout = .hard ∧
    (let s := chan 0 (fun c => { c with watch := .running 200000 }) day;
      s.chans[(0 : LpId)].watch.isRunning = true ∧ s.chans[(0 : LpId)].state ≠ .manual) ∧
    (let s := chan 0 (fun c => { c with watch := .running 0 }) (put .manual 0 day);
      s.chans[(0 : LpId)].watch.isRunning = true ∧ s.chans[(0 : LpId)].state = .manual) := by decide +kernel

theorem witness_StopTimerExpires :
    (let s := put .stopRequested 4 night;
      s.chans[(4 : LpId)].state = .stopRequested ∧ s.chans[(4 : LpId)].stopT.isRunning = true ∧ (s.block 4).control ≠ 0) ∧
    (let s := put .stopRequested 0 night;
      s.chans[(0 : LpId)].stopT.isRunning = true ∧ (s.block 0).control = 0 ∧ 1 < s.chans[(0 : LpId)].retry) ∧
    (let s := chan 0 (fun c => { c with retry := 1 }) (put .stopRequested 0 night);
      s.chans[(0 : LpId)].stopT.isRunning = true ∧ (s.block 0).control = 0 ∧ s.chans[(0 : LpId)].retry ≤ 1 ∧
        (s.block 0).reportOnExhaust = 1) ∧
    (let s := chan 5 (fun c => { c with retry := 1 }) (put .stopRequested 5 night);
      s.chans[(5 : LpId)].stopT.isRunning = true ∧ (s.block 5).control = 0 ∧ s.chans[(5 : LpId)].retry ≤ 1 ∧
        (s.block 5).reportOnExhaust ≠ 1) := by decide +kernel

theorem witness_ChannelTimersExpire :
    (let s := put .starting 0 day;
      s.chans[(0 : LpId)].state = .starting ∧ s.chans[(0 : LpId)].startT.isRunning = true) ∧
    (let s := put .coasting 2 night;
      s.chans[(2 : LpId)].state = .coasting ∧ s.chans[(2 : LpId)].coastT.isRunning = true) ∧
    (let s := put .starting 0 (line 0 (fun l => { l with run := some true }) day);
      s.chans[(0 : LpId)].state = .starting ∧ s.chans[(0 : LpId)].settleT.isRunning = true) ∧
    (let s := put .stopPending 3 night;
      s.chans[(3 : LpId)].state = .stopPending ∧ s.chans[(3 : LpId)].runOnT.isRunning = true) ∧
    (let s := chan 2 (fun c => { c with leadT := .running 0 }) (put .startPending 2 day);
      s.chans[(2 : LpId)].state = .startPending ∧ s.chans[(2 : LpId)].leadT.isRunning = true) := by decide +kernel

theorem witness_BalanceTimersExpire :
    (prov 4 (fun p => { p with timer := .running 600000000 }) night).provs[(4 : LpId)].timer.isRunning = true ∧
    (day.setSvc 2 { timer := .running 0, confirmed := false, inForce := false }).svcs[(2 : SvcId)].timer.isRunning = true ∧
    day.chans[(0 : LpId)] = Chan.powerOn .running 2 ∧ day.provs[(4 : LpId)].timer = .off ∧
    day.svcs[(2 : SvcId)].timer = .off ∧ day.mode.listenIn = .off ∧ passive.mode.beaconT = .off ∧
    day.link.silence = .off ∧ (∀ e ∈ (peers [{ peer 10 with age := .off }] day).peers.entries,
      e.address = 10 → e.age = .off ∧ e.answerHold = .off) ∧
    day.peers.overflow = .off ∧ day.peers.sharedHold = .off ∧ day.round.phase = .closed ∧
    day.link.inProgress = none := by decide +kernel

theorem witness_FramesAreTakenInGroupOrder :
    (let l := { Link.reset with pagesLeft := [frameOf (.page 1)], waitIntent := some (frameOf .intent) };
      l.inProgress = none ∧ l.pagesLeft = [frameOf (.page 1)]) ∧
    (let l := { Link.reset with waitIntent := some (frameOf .intent), waitReply := some (frameOf .reply) };
      l.inProgress = none ∧ l.pagesLeft = [] ∧ l.waitIntent.isSome = true) ∧
    (let l := { Link.reset with waitReply := some (frameOf .reply), waitPages := [frameOf (.page 0)] };
      l.inProgress = none ∧ l.waitIntent = none ∧ l.waitReply.isSome = true) ∧
    (let l := { Link.reset with waitPages := [frameOf (.page 0)], waitBeacon := some (frameOf (.beacon false)) };
      l.inProgress = none ∧ l.waitReply = none ∧ l.waitPages ≠ []) ∧
    (let l := { Link.reset with waitBeacon := some (frameOf (.beacon false)) };
      l.inProgress = none ∧ l.waitPages = [] ∧ l.waitBeacon.isSome = true) := by decide +kernel

/-- A station whose frame stands at the given place of contention. -/
def contending (o : Origin) (p : TxPhase) (n : Nat) (s : State) : State :=
  link (fun l => { l with inProgress := some (sendingOf o p n) }) s

theorem witness_AttemptsStartAndBackOff :
    (contending .reply .waiting 0 day).link.inProgress = some (sendingOf .reply .waiting 0) ∧
    (contending .reply (.backingOff (.running 1024)) 1 day).link.inProgress =
      some (sendingOf .reply (.backingOff (.running 1024)) 1) ∧
    (contending .reply .sending 0 day).link.inProgress = some (sendingOf .reply .sending 0) ∧
    (contending .reply .sending 6 day).link.inProgress = some (sendingOf .reply .sending 6) ∧ 6 < 7 ∧
    (contending .reply (.lostAwaitingIdle 0) 1 day).link.inProgress = some (sendingOf .reply (.lostAwaitingIdle 0) 1) ∧
    day.link.inProgress = none ∧ (contending .reply .waiting 0 day).link.lineIdle = false ∧
    (let s := link (fun l => { l with lineIdle := true }) (contending .reply .waiting 0 day);
      s.link.inProgress = some (sendingOf .reply .waiting 0) ∧ s.link.lineIdle = true) := by decide +kernel

theorem witness_EighthLossAbandons :
    (let s := contending .intent .sending 7 day;
      s.link.inProgress = some (sendingOf .intent .sending 7) ∧ s.beaconing = true ∧ s.link.abandonRun < 2) ∧
    (let s := link (fun l => { l with abandonRun := 2 }) (contending .intent .sending 7 day);
      s.beaconing = true ∧ s.mode.isolated = false ∧ 2 ≤ s.link.abandonRun) ∧
    (let s := contending (.beacon true) .sending 7 day;
      s.link.inProgress = some (sendingOf (.beacon true) .sending 7) ∧ s.beaconing = true ∧ s.link.waitPages = []) ∧
    (let s := link (fun l => { l with pagesLeft := [frameOf (.page 1)] }) (contending (.page 0) .sending 7 day);
      s.link.inProgress = some (sendingOf (.page 0) .sending 7)) ∧
    conflict.beaconing = false := by decide +kernel

theorem witness_CompletedFrames :
    (contending (.beacon false) .sending 7 day).link.inProgress = some (sendingOf (.beacon false) .sending 7) ∧
    (let s := (contending .intent .sending 0 day).withRound { day.round with outstanding := some [⟨0, stopEntry⟩] };
      s.link.inProgress = some (sendingOf .intent .sending 0) ∧ s.round.outstanding = some [⟨0, stopEntry⟩] ∧
        s.round.phase = .closed ∧ s.round.list.length + 1 ≤ 24) ∧
    (let s := (contending .intent .sending 0 day).withRound
        { day.round with outstanding := some [⟨0, stopEntry⟩], phase := .guarding };
      s.round.outstanding = some [⟨0, stopEntry⟩] ∧ s.round.phase = .guarding) ∧
    (let s := (contending .intent .sending 0 day).withRound
        { day.round with
          outstanding := some [⟨0, stopEntry⟩], phase := .opened
          list := (List.range 24).map fun k => ⟨BitVec.ofNat 8 (10 + k), startEntry 3 60 1, none⟩ };
      s.round.outstanding = some [⟨0, stopEntry⟩] ∧ s.round.phase = .opened ∧ s.round.list.length = 24 ∧
        s.round.refused ≤ 255) ∧
    (let s := link (fun l => { l with heard := true })
        ((contending (.beacon true) .sending 0 day).withMode { day.mode with isolated := true });
      s.mode.isolated = true ∧ s.link.heard = true ∧ s.beaconing = true ∧ s.link.waitPages = []) := by decide +kernel

theorem witness_ReceptionsThatGoNoFurther :
    day.receiving = true ∧ isFrameCommand .crcError = true ∧ isFrameCommand (.inquiryCounters 1 0 1) = true ∧
    isFrameCommand (.plan 10 0 (.later 1 ⟨svc2, svc2, svc2, svc2⟩)) = true ∧ isFrameCommand .addressConflict = true ∧
    State.reset.loader.phase ≠ .done ∧ State.reset.mode.station = none ∧
    (link (fun l => { l with awaitIdle := true }) day).link.awaitIdle = true ∧
    (contending .reply .sending 0 day).link.inProgress = some (sendingOf .reply .sending 0) := by
  decide +kernel

theorem witness_StationFramesReadBack :
    isStation 1 = true ∧ isStation 60 = true ∧ (some 9 : Option Byte) ≠ some 60 ∧
    (∀ e ∈ List.replicate 4 stopEntry, causeFits e.action e.cause = true ∧ 1 ≤ e.level ∧ e.level ≤ 7 ∧
      e.capacity ≤ 4000 ∧ e.provides.isSome = true ∧ 1 ≤ e.capacity ∧ e.inrush < 256 ∧ e.demands.length ≤ 3 ∧
      (e.demands.map Prod.fst).Nodup) := by decide +kernel

theorem witness_PeerFramesAreRecorded :
    (day.receiving = true ∧ isStation 10 = true ∧ day.station.address ≠ some 10 ∧ day.peers.Wf ∧
      findEntry 10 day.peers.entries = none ∧ day.peers.entries.length < 32) ∧
    (let s := peers crowd day;
      s.receiving = true ∧ s.peers.Wf ∧ (findEntry 10 s.peers.entries).isSome = true ∧
        findEntry 60 s.peers.entries = none ∧ 32 ≤ s.peers.entries.length) ∧
    (contending .reply (.lostAwaitingEnd 2) 1 day).receiving = true ∧
    quietBeacon.figures.length ≤ 12 ∧ (PlanPage.later 1 ⟨svc2, svc2, svc2, svc2⟩).lengthOk = true ∧
    [rawStart].length = 1 := by decide +kernel

theorem witness_BeaconsAndPagesAreTaken :
    (peer 10).mode ≠ some .listenIn ∧ (peer 10).lastSeq = some 250 ∧ (PeerEntry.created 10).lastSeq = none ∧
    (peer 10).lastToggle ≠ some 1 ∧ (peer 10).assembly = none ∧
    ({ peer 10 with lastToggle := some 1 } : PeerEntry).lastToggle = some 1 ∧
    (let a : Assembly := { toggle := 1, next := 1, head := planBase, services := List.replicate 4 serviceBlank };
      a.toggle = 1 ∧ a.next = 1 ∧ a.next ≠ (2 : Byte).toNat) ∧ 2 < (3 : Byte).toNat := by decide +kernel

theorem witness_PlanRequestsAreAnswered :
    day.beaconing = true ∧ ({ quietBeacon with planRequest := true } : BeaconMsg).planRequest = true ∧
    day.link.announcementUnbegun = false ∧
    (let e := { peer 10 with planState := .unchecked };
      findEntry 10 (peers [e] day).peers.entries = some e ∧ e.planState ≠ .matched ∧ e.answerHold = .off) ∧
    findEntry 10 (peers [peer 10] day).peers.entries = some (peer 10) ∧
    findEntry 60 (peers crowd day).peers.entries = none ∧ (peers crowd day).peers.sharedHold = .off ∧
    (link (fun l => { l with waitPages := [frameOf (.page 0)] }) day).link.announcementUnbegun = true := by
  decide +kernel

theorem witness_PeerTimersExpire :
    (let s := peers [peer 10] day;
      s.peers.Wf ∧ findEntry 10 s.peers.entries = some (peer 10) ∧ (peer 10).age.isRunning = true) ∧
    (day.withPeers { day.peers with overflow := .running 0 }).viewOverflow = true ∧
    (let s := link (fun l => { l with silence := .running 0 }) day;
      s.beaconing = true ∧ s.link.silence.isRunning = true ∧ s.mode.isolated = false) ∧
    (let s := link (fun l => { l with silence := .running 0 }) (contending .intent .sending 0 day);
      s.link.silence.isRunning = true ∧ s.link.inProgress = some (sendingOf .intent .sending 0)) ∧
    (let s := (link (fun l => { l with silence := .running 0 }) listen).withMode { listen.mode with isolated := true };
      s.beaconing = true ∧ s.link.silence.isRunning = true ∧ s.mode.isolated = true) := by decide +kernel

theorem witness_OwnAddressMeansConflict :
    day.receiving = true ∧ day.station.address.isSome = true ∧ day.beaconing = true ∧
    listen.listening = true ∧ passive.receiving = true ∧ passive.station.address.isSome = true ∧
    passive.beaconing = false := by decide +kernel

theorem witness_RequiredCapacityRoundsUp : (day.svcBlock 2).margin.toNat ≤ 100 := by decide +kernel

theorem witness_IntentFramesReachTheRound :
    (day.receiving = true ∧ isStation 10 = true ∧ day.station.address ≠ some 10 ∧ [rawStart].length = 1 ∧
      day.deciding = true ∧ day.round.phase = .closed ∧ day.round.refused ≤ 255) ∧
    (let s := day.withRound { day.round with phase := .guarding };
      s.deciding = true ∧ s.round.phase = .guarding) ∧
    (let s := peers [{ peer 10 with planState := .mismatched }] (listen.withRound { day.round with phase := .opened });
      s.listening = true ∧ s.round.phase = .opened ∧ s.mismatched 10 = true) ∧
    (let s := peers [peer 10] (day.withRound
        { day.round with phase := .opened, list := List.replicate 23 ⟨10, startEntry 3 60 0, none⟩ });
      (rawToEntry rawStart).map Entry.lp = some 1 ∧ s.mismatched 10 = false ∧ s.round.list.length < 24 ∧
        (∀ x ∈ s.round.list, x.station = 10 → x.entry.lp ≠ 1) ∧
        ∃ x ∈ s.round.list, x.station = 10 ∧ x.entry.lp = 0) ∧
    (rawToEntry rawStart).isSome = true ∧
    [{ rawStart with lp := 8 }, { rawStart with action := 2 }, { rawStart with cause := 0 }, { rawStart with level := 8 },
      { rawStart with level := 0 }, { rawStart with provides := 12, capacity := 1 }, { rawStart with provides := 2 },
      { rawStart with action := 0, cause := 0 }, { rawStart with capacity := 4001 }, { rawStart with pairCount := 4 },
      { rawStart with pairCount := 1 }, { rawStart with pairCount := 1, pair0 := ⟨12, 1⟩ },
      { rawStart with pairCount := 2, pair0 := ⟨2, 1⟩, pair1 := ⟨2, 1⟩ }].map rawToEntry = List.replicate 13 none := by
  decide +kernel

/-- A round with two starts above the budget together and a stop of LP4 that is waiting. -/
def opened : State :=
  (put .stopPending 4 night).withRound
    { night.round with
      phase := .opened
      list := [⟨10, startEntry 3 60 1, none⟩, ⟨9, stopEntry, some 7⟩, ⟨10, startEntry 5 60 0, none⟩]
      queue := [⟨7, stopEntry⟩] }

theorem witness_RoundsCloseAndGuard :
    opened.round.phase = .opened ∧ (closeRound opened).round.phase = .guarding := by decide +kernel

/-- The plant with the providers of a peer: S2 has capacity 400 and LP4 may stop. -/
def rich : State :=
  peers [{ peer 10 with figures := [⟨2, 0, 400⟩] }] opened

theorem witness_GrantsReachTheChannels : opened.round.phase = .opened ∧
    (⟨7, stopEntry⟩ ∈ rich.round.queue ∧ (rich.round.queue.map QueueEntry.serial).Nodup ∧
      (rich.round.queue.map fun q => q.entry.lp).Nodup ∧ rich.chans[(4 : LpId)].state = .stopPending ∧
      (evaluate rich).1.any (fun x => x.1.own == some 7 && x.2 == .granted) = true) ∧
    (⟨7, stopEntry⟩ ∈ opened.round.queue ∧
      (evaluate opened).1.any (fun x => x.1.own == some 7 && x.2 == .granted) = false) := by decide +kernel

/-- S2 has capacity 300: a start, one whose demand S2 cannot carry, one for a shortfall that is met, one above B. -/
def crowded : State :=
  peers [{ peer 10 with figures := [⟨2, 0, 300⟩] }] (opened.withRound
    { opened.round with
      list := [⟨10, startEntry 7 60 0, none⟩, ⟨10, { startEntry 6 30 1 with demands := [(2, 250)] }, none⟩,
        ⟨10, { startEntry 5 30 2 with cause := .shortfall, provides := some 2, capacity := 80 }, none⟩,
        ⟨10, startEntry 4 60 3, none⟩] })

theorem witness_GrantedStartsKeepTheBudget :
    (let s := opened.withRound { opened.round with list := [⟨10, startEntry 5 200 0, none⟩] };
      (sortEntries s.round.list).filter (fun e => e.entry.action = .start) = [⟨10, startEntry 5 200 0, none⟩] ∧
        s.planB < 200) ∧
    ((evaluate crowded).1.filter fun x => x.1.entry.action = .start).map Prod.snd =
      [.granted, .skippedDemand, .skippedNotNeeded, .deferred] := by decide +kernel

theorem witness_GrantedStopsKeepTheRequirement :
    (evaluate rich).1.any (fun x => x.1.entry.action == .stop && x.1.entry.provides == some 2 && x.2 == .granted) =
      true ∧
    (let s := rich.withRound { rich.round with doubtful := true };
      s.round.doubtful = true ∧ (evaluate s).1.any (fun x => x.1.own.isSome && x.1.entry.action == .stop) = true) ∧
    (let s := rich.withMode { rich.mode with station := some .addressConflict };
      s.inConflict = true ∧ (evaluate s).1.any (fun x => x.1.own.isSome && x.1.entry.action == .stop) = true) ∧
    (let s := rich.withRound { rich.round with
        doubtful := true
        list := [⟨10, { stopEntry with level := 7, provides := some 1 }, none⟩, ⟨9, stopEntry, some 7⟩,
          ⟨10, { stopEntry with level := 4, capacity := 120 }, none⟩, ⟨11, { stopEntry with level := 3 }, none⟩] };
      (evaluate s).1.map (fun x => (x.1.station, x.2)) =
        [(10, .deniedService), (9, .deniedView), (10, .granted), (11, .deniedCapacity)] ∧
      s.svcInUse 1 = false ∧ s.svcInUse 2 = true) := by
  decide +kernel

theorem witness_NightIsTakenAndDecided :
    (day.loaded = true ∧ day.mode.nightLevel ≠ some true ∧ night.mode.nightLevel = some true) ∧
    (day.withMode { day.mode with nightLevel := none }).mode.nightLevel = none ∧
    (listen.mode.station = some .listenIn ∧ listen.mode.listenIn.isRunning = true) ∧
    conflict.mode.station = some .addressConflict ∧ passive.mode.station = some .passive := by decide +kernel

theorem witness_BeaconsAreHanded : day.beaconing = true ∧ day.mode.beaconT.isRunning = true ∧
    day.link.waitBeacon = none ∧
    (day.withMode { day.mode with seq := 255 }).mode.seq = 255 ∧
    (let s := link (fun l => { l with waitBeacon := some (frameOf (.beacon true)) }) (contending .reply .waiting 0 day);
      s.beaconing = true ∧ s.mode.beaconT.isRunning = true ∧ s.listening = false ∧
        s.link.waitBeacon = some (frameOf (.beacon true)) ∧ s.link.inProgress.isSome = true ∧
        s.link.announcementUnbegun = false) ∧
    (let s := link (fun l => { l with waitBeacon := some (frameOf (.beacon true)) })
        (contending (.page 0) .waiting 0 day);
      s.link.inProgress.isSome = true ∧ s.link.announcementUnbegun = true) ∧
    (let s := listen.withMode { listen.mode with listenIn := .running 0, beaconT := .running 0 };
      s.beaconing = true ∧ s.mode.beaconT.isRunning = true ∧ s.listening = true ∧
        s.mode.listenIn = .running 0) := by decide +kernel

theorem witness_UptimeCountsSeconds :
    (day.withFaults { day.faults with uptime := 4294967295 }).faults.uptime = 4294967295 ∧
    Instr.lineIdle ≠ .uptimeTick ∧ Instr.lineIdle ≠ .powerOn ∧ ∃ t, exec .lineIdle day = .next t :=
  ⟨by decide +kernel, by decide, by decide, _, rfl⟩

theorem witness_FirstCaptureStands :
    (reportLp 0 .startNotSeen true day).faults.Wf ∧ FaultRecord.clear.valid = false ∧
    (FaultRecord.clear.report .clamped 5 .startUp false).valid = true ∧
    Instr.clearFault 1 1 true ≠ .powerOn ∧ Instr.lineIdle ≠ .clearFault 1 1 true ∧
    (reportLp 0 .startNotSeen true day).faults.lps[(0 : LpId)].valid = true ∧
    (day.raise .isolated).flagSet .isolated = true ∧ ∃ t, exec .lineIdle (day.raise .isolated) = .next t :=
  ⟨by decide +kernel, by decide +kernel, by decide +kernel, by decide, by decide, by decide +kernel, by decide +kernel,
    _, rfl⟩

theorem witness_AlertAndTopAlert : (day.raise .isolated).topAlert = some (.isolated, 4) ∧ day.topAlert = none := by
  decide +kernel

theorem witness_HardLockoutStands :
    let s := chan 0 (fun c => { c with lockout := .hard }) (put .lockout 0 day)
    Instr.clearLockout 1 1 ≠ .powerOn ∧ s.loader.phase = .done ∧ s.chans[(0 : LpId)].HardHeld ∧
      ∃ t, exec (.clearLockout 1 1) s = .next t :=
  ⟨by decide, by decide +kernel, by decide +kernel, _, rfl⟩

theorem witness_RepliesAndRefusals :
    (day.station.address = some 9 ∧ day.inConflict = false ∧ day.receiving = true ∧ day.mode.station ≠ some .passive) ∧
    isToolCode 0 = false ∧ isToolCode 8 = false ∧ isStation 0 = false ∧ isStation 61 = false ∧
    (isStation 10 = true ∧ findEntry 10 day.peers.entries = none) ∧ 512 ≤ (512 : Half).toNat ∧
    (let s := chan 7 (fun c => c) (chan 0 (fun c => { c with lockout := .hard }) (put .lockout 0 day));
      s.inUse 0 = true ∧ maskBit 1 0 = true ∧ s.chans[(0 : LpId)].lockout = .hard) ∧
    (put .manual 0 day).chans[(0 : LpId)].state = .manual ∧
    (passive.receiving = true ∧ passive.station.address.isSome = true ∧ passive.inConflict = false ∧
      passive.mode.station = some .passive) ∧
    (contending .reply .waiting 0 day).link.inProgress ≠ none ∧
    (conflict.receiving = true ∧ conflict.inConflict = true ∧ isRequest (.inquiryCounters 1 0 1) = true) ∧
    (let s := passive.withStation StationFields.default;
      s.receiving = true ∧ s.station.address = none ∧ isRequest (.clearAlerts 1 1) = true) := by decide +kernel

theorem witness_InquiriesAreAnswered :
    day.receiving = true ∧ day.station.address.isSome = true ∧ day.inConflict = false ∧
    (Table.counters.records day).length = 1 ∧ (0 : Byte).toNat < (Table.counters.records day).length ∧
    (Table.counters.records day).length ≤ (1 : Byte).toNat ∧
    (day.withPeers { day.peers with overflow := .running 7000001 }).viewOverflow = true ∧
    (Table.lpRuntime.records day).length = 8 ∧
    (Table.peerTable.records (peers crowd day)).length = 32 ∧
    (Table.lastRound.records day).length ≤ (0 : Byte).toNat ∧
    (peers [peer 10] day).peers.entries[0]? = some (peer 10) := by
  decide +kernel

theorem witness_AcceptedDirectives :
    (day.receiving = true ∧ day.station.address.isSome = true ∧ day.mode.station = some .active ∧
      listen.mode.station = some .listenIn) ∧
    (511 : Half).toNat < 512 ∧
    (isStation 10 = true ∧ (findEntry 10 (peers [peer 10] day).peers.entries).isSome = true) ∧
    (let s := chan 0 (fun c => { c with lockout := .soft }) (put .lockout 0 day);
      s.inUse 0 = true ∧ maskBit 1 0 = true ∧ s.chans[(0 : LpId)].lockout = .soft ∧
        ∀ i : LpId, s.chans[i].lockout ≠ .hard ∧ s.chans[i].state ≠ .manual) ∧
    (let s := chan 0 (fun c => { c with lockout := .soft }) (put .manual 0 day);
      s.inUse 0 = true ∧ s.chans[(0 : LpId)].lockout = .soft ∧ s.chans[(0 : LpId)].state ≠ .lockout) ∧
    (put .excluded 0 day).chans[(0 : LpId)].state = .excluded := by decide +kernel

theorem witness_RestartRestores :
    (day.receiving = true ∧ day.station.address.isSome = true ∧ day.mode.station ≠ some .passive ∧
      day.inConflict = false ∧ day.QueueMarks) ∧
    (conflict.receiving = true ∧ conflict.mode.station ≠ some .passive ∧ conflict.inConflict = true ∧
      conflict.QueueMarks) ∧
    (passive.receiving = true ∧ passive.mode.station = some .passive) ∧ day.inUse 0 = true ∧
    (put .stopRequested 0 night).chans[(0 : LpId)].state = .stopRequested ∧
    (put .coasting 2 night).chans[(2 : LpId)].state = .coasting ∧
    (chan 0 (fun c => { c with lockout := .hard }) (put .lockout 0 day)).chans[(0 : LpId)].lockout = .hard ∧
    (let s := contending (.beacon true) .waiting 0 day;
      s.receiving = true ∧ s.beaconing = true ∧ s.QueueMarks ∧
        s.link.inProgress = some (sendingOf (.beacon true) .waiting 0)) ∧
    (let s := run (.restart 33) passive;
      isLoaderCommand (.headerRead 1 378 0) = true ∧ Instr.headerRead 1 378 0 ≠ .powerOn ∧ s.loader.phase ≠ .done ∧
        s.loader.replySeq = some 33 ∧ (run (.headerRead 1 378 0) s).loader.phase = .done ∧
        (run (.headerRead 1 377 0) s).loader.phase ≠ .done) := by
  decide +kernel

/-- A state other than reset that meets every invariant: the night with all its consequences. -/
theorem witness_Invariants :
    nightQuiet.peers.Wf ∧ (peers crowd nightQuiet).peers.Wf ∧ nightQuiet.RoundPairs ∧ nightQuiet.ChannelsWf ∧
    nightQuiet.QueueMarks ∧ nightQuiet.faults.Wf ∧ nightQuiet.link.Wf ∧
    (stopped.FollowersHeld ∧ stopped.leader 3 = some 2 ∧ stopped.stopLine 3 = true) ∧
    ((waiting .active).round.Wf ∧ (waiting .active).round.queue ≠ []) ∧
    ((run (.restart 1) passive).LoaderHoldsNothing ∧ (run (.restart 1) passive).loader.phase ≠ .done) ∧
    ∃ t, step (nightQuiet.withPending [.uptimeTick]) = .next t := by
  have ho : nightQuiet.round.outstanding = none := by decide +kernel
  have hi : nightQuiet.link.inProgress = none := by decide +kernel
  refine ⟨by decide +kernel, by decide +kernel, ⟨by decide +kernel, by decide +kernel, by decide +kernel,
    by decide +kernel, fun qs h => ?_, by decide +kernel⟩, by decide +kernel, by decide +kernel, by decide +kernel,
    ⟨by decide +kernel, fun t h => ?_⟩, by decide +kernel, by decide +kernel, by decide +kernel, _, rfl⟩
  · rw [ho] at h
    cases h
  · rw [hi] at h
    cases h

/-! ### Worked values of the manual -/

/-- Section 2.12, sample 9: the third still sample of a coasting flywheel reports standstill. -/
theorem test_standstill_stops :
    let s := run (.rotationSample 2) (unit 2 (fun u => { u with count := 12820, lastPosition := 12821, runCount := 2,
                                                                lastSign := some .plus })
      (put .coasting 2 (line 2 (fun l => { l with grant := some true }) night)))
    s.chans[(2 : LpId)].state = .stopped ∧ s.units[(2 : LpId)].lastSign = some .minus ∧
      s.units[(2 : LpId)].dirFlag = false ∧ s.units[(2 : LpId)].runCount = 0 := by decide +kernel
/-- Section 2.12, sample 10: the flywheel settles back one step. -/
theorem test_direction_change :
    let u := (run (.rotationSample 2) (unit 2 (fun u => { u with count := 12821, lastPosition := 12820,
                                                                 lastSign := some .minus }) stopped)).units[(2 : LpId)]
    u.lastDelta = 1 ∧ u.dirFlag = true ∧ u.dirCount = 1 ∧ u.lastSign = some .plus := by decide +kernel
/-- Section 2.12, 12.4 s: a rise of load counts, reloads and is held. -/
theorem test_load_reloads :
    let u := (run (.loadLevelChange 1 false) (unit 1 (fun u => { u with count := 57, idle := 18, loaded := some false })
      (acted 1 true nightQuiet))).units[(1 : LpId)]
    u.count = 58 ∧ u.idle = 900 ∧ u.loaded = some true := by decide +kernel
/-- Section 2.12, 80 s: the decrease to 0 sends a consumer to STOP_REQUESTED. -/
theorem test_idle_expiry :
    let s := run (.idleTimerDecrease 0) (unit 0 (fun u => { u with idle := 1 }) nightQuiet)
    s.chans[(0 : LpId)].state = .stopRequested ∧ s.stopLine 0 = true ∧
      s.chans[(0 : LpId)].stopT = .running 60000000 ∧ s.units[(0 : LpId)].armed = false := by decide +kernel
/-- R31: activity and the expiry in one event; the activity is taken first, and no expiry is reported. -/
theorem test_activity_before_the_expiry :
    let s := run (.idleExpiry 0) (run (.strokeEdge 0 true)
      (acted 0 false (unit 0 (fun u => { u with idle := 1 }) nightQuiet)))
    s.units[(0 : LpId)].idle = 900 ∧ s.units[(0 : LpId)].expiryReported = false ∧
      s.chans[(0 : LpId)].state = .idleWatch := by decide +kernel
/-- R30: a first level that reads loaded holds the timer at its reload value. -/
theorem test_first_level_holds_the_idle_timer :
    let s := run (.actFirstLevel 1 false) (unit 1 (fun u => { u with idle := 18 }) nightQuiet)
    s.units[(1 : LpId)].idle = 900 ∧ s.units[(1 : LpId)].count = 0 := by decide +kernel
theorem test_stroke_wraps :
    (run (.strokeEdge 0 true) (acted 0 false (unit 0 (fun u => { u with count := 65535 }) day))).units[(0 : LpId)].count =
      0 := by decide +kernel
/-- R22: A leading B is positive: A rises while B is low. -/
theorem test_quadrature :
    (run (.quadratureEdge 2 true) (acted 2 false (acted 3 false day))).units[(2 : LpId)].count = 1 ∧
    (run (.quadratureEdge 3 true) (acted 2 false (acted 3 false day))).units[(2 : LpId)].count = 65535 := by
  decide +kernel

/-- Section 3.12, 22:21:10: the stop timer expires, the retry count falls to 1, LP2 is watched afresh. -/
theorem test_refused_attempt :
    let s := run (.stopTimerExpiry 2) (put .stopRequested 2 nightQuiet)
    s.chans[(2 : LpId)].state = .idleWatch ∧ s.chans[(2 : LpId)].retry = 1 ∧ s.units[(2 : LpId)].idle = 900 ∧
      s.stopLine 2 = false := by decide +kernel
/-- Section 3.12, 22:36:24: the grant rises; a ROTATION load point coasts. -/
theorem test_grant_rise :
    let s := run (.grantRise 2) (put .stopRequested 2 nightQuiet)
    s.chans[(2 : LpId)].state = .coasting ∧ s.chans[(2 : LpId)].coastT = .running 300000000 ∧ s.stopLine 2 = true := by
  decide +kernel
/-- Section 3.12, 22:36:24.3: the press is STOPPED, its pump runs on for 180 s; 22:39:24.3: the run-on expires. -/
theorem test_run_on :
    let s := settle (put .stopped 2 (line 2 (fun l => { l with grant := some true })
      (line 3 (fun l => { l with run := some true }) nightQuiet)))
    s.chans[(3 : LpId)].state = .stopPending ∧ s.chans[(3 : LpId)].runOnT = .running 180000000 ∧
      (run (.runOnExpiry 3) s).chans[(3 : LpId)].state = .stopRequested := by decide +kernel
/-- Section 3.12, 22:39:25: under DIRECT the drop of RUN3 confirms the stop. -/
theorem test_run_drop : (run (.runDrop 3) stopping).chans[(3 : LpId)].state = .stopped := by decide +kernel
/-- Section 3.12, 05:30:00: WAKE; the pump bids for its start, the press waits for it. -/
theorem test_wake :
    let s := run (.nightEdge false) stopped
    s.mode.plant = .wake ∧ s.chans[(2 : LpId)].state = .startPending ∧ s.chans[(3 : LpId)].state = .startPending ∧
      s.chans[(3 : LpId)].cause = some .wake ∧ s.round.queue.map (fun q => q.entry.lp) = [3] ∧
      s.chans[(2 : LpId)].leadT = .off := by decide +kernel
/-- Section 3.12, the recall at 03:10: the pump is forced to start, the press is watched again. -/
theorem test_recall :
    let s := run (.grantDrop 2) stopped
    s.chans[(2 : LpId)].state = .idleWatch ∧ s.chans[(2 : LpId)].recalls = 1 ∧ s.flagSet .recalled = true ∧
      s.chans[(3 : LpId)].state = .starting ∧ s.round.queue = [] := by decide +kernel
/-- Section 3.12, 05:30:03: RUN3 rises in STARTING: settle 5 s. -/
theorem test_run_rise_settles :
    let s := run (.runRise 3) (put .starting 3 day)
    s.chans[(3 : LpId)].settleT = .running 5000000 ∧ s.chans[(3 : LpId)].startT = .off ∧
      (run (.settleTimerExpiry 3) s).chans[(3 : LpId)].state = .running := by decide +kernel
/-- R54: no run within start_timeout is a fault that locks. -/
theorem test_start_not_seen :
    let s := run (.startTimerExpiry 0) (put .starting 0 day)
    s.chans[(0 : LpId)].state = .lockout ∧ s.chans[(0 : LpId)].lockout = .soft ∧
      s.faults.lps[(0 : LpId)].first = some .startNotSeen ∧ s.faults.lps[(0 : LpId)].stateAt = some (.lp .starting) := by
  decide +kernel
theorem test_manual :
    (run (.handAsserted 0) day).chans[(0 : LpId)].state = .manual ∧
    (run (.handReleased 0) (run (.handAsserted 0) day)).chans[(0 : LpId)].state = .running := by decide +kernel
/-- R56: no automatic step while HANDn is asserted, and R39 at its release. -/
theorem test_hand_holds_a_running_load_point :
    let s := settle (line 0 (fun l => { l with hand := some true }) night)
    s.chans[(0 : LpId)].state = .running ∧ (run (.handReleased 0) s).chans[(0 : LpId)].state = .idleWatch := by
  decide +kernel
/-- R45: the last refused attempt of a load point that does not report is excluded automatically. -/
theorem test_exhausted :
    let s := run (.stopTimerExpiry 5) (chan 5 (fun c => { c with retry := 1 }) (put .stopRequested 5 nightQuiet))
    s.chans[(5 : LpId)].state = .excluded ∧ s.chans[(5 : LpId)].autoOff = true ∧ s.flagSet .exhausted = true ∧
      s.stopLine 5 = false := by decide +kernel

/-! #### Section 6.8: station 9's view of the north air header -/

def peerWith (a : Byte) (fr : Freshness) (d c : Half) : PeerEntry :=
  { peer a with freshness := fr, figures := [{ service := 2, demand := d, capacity := c }] }

/-- The five stations, the last STALE or FRESH. -/
def header (fr : Freshness) : State :=
  peers [peerWith 3 .fresh 40 250, peerWith 7 .fresh 95 160, peerWith 12 .fresh 22 120, peerWith 15 fr 25 110] day

theorem test_north_air_header :
    (header .stale).demand 2 = 212 ∧ (header .stale).capacity 2 = 530 ∧ (header .stale).required 2 = 244 ∧
    (header .fresh).demand 2 = 212 ∧ (header .fresh).capacity 2 = 640 := by decide +kernel
/-- Section 5.8, 02:00:36: the gap from sequence 40 to 56 is 15. -/
theorem test_gap :
    let s := run (.beacon 15 56 { quietBeacon with figures := [⟨2, 25, 110⟩] })
      (peers [{ peerWith 15 .stale 25 110 with lastSeq := some 40 }] day)
    s.peers.entries.map (fun e => (e.missed, e.freshness, e.lastSeq)) = [(15, .fresh, some 56)] := by decide +kernel
/-- Section 5.8, 02:10:00: a station that joins is recorded, is UNCHECKED, and its plan request is answered. -/
theorem test_joining_station :
    let s := run (.beacon 21 0 { quietBeacon with mode := .listenIn, planRequest := true, figures := [⟨2, 18, 90⟩] })
      (link (fun l => { l with inProgress := some (sendingOf .reply .waiting 0) }) day)
    s.peers.entries.map (fun e => (e.address, e.planState, e.answerHold)) = [(21, .unchecked, .running 8000000)] ∧
      s.link.waitPages.length = 3 ∧ s.mode.toggle = true := by decide +kernel
theorem test_full_table :
    let s := run (.reply 60) (peers crowd day)
    s.peers.entries.length = 32 ∧ s.viewOverflow = true ∧ s.flagSet .viewOverflow = true ∧
      (run .overflowTimerExpiry s).viewOverflow = false := by decide +kernel
/-- R113: a shortfall that goes into force reaches every STOPPED provider, whatever the first one's start changes. -/
theorem test_shortfall_reaches_every_provider :
    let c := { cfg with lps := cfg.lps.set 5 { blocks[5] with provides := 2, capacity := 10 } }
    let s := setForce 2 true (((put .stopped 4 (put .stopped 5 night)).withConfig (some c)).setSvc 2
      { timer := .expired, confirmed := true, inForce := false })
    s.chans[(4 : LpId)].cause = some .shortfall ∧ s.chans[(5 : LpId)].cause = some .shortfall := by decide +kernel
theorem test_age_timer :
    (run (.ageTimerExpiry 10) (peers [peer 10] day)).peers.entries.map PeerEntry.freshness = [.stale] := by decide +kernel

/-! #### Section 7.9: the worked rounds -/

def s2Figures (c d r margin cmin : Nat) : FigureTable :=
  (Vector.replicate 12 none).set 2 (some { c, d, r, margin, cmin })

def stopOf (st : Byte) (i : LpId) (level capacity : Nat) : ListEntry :=
  ⟨st, { stopEntry with lp := i, level, capacity }, none⟩
def startOf (st : Byte) (i : LpId) (level inrush : Nat) (demands : List (SvcId × Nat)) : ListEntry :=
  ⟨st, { startEntry level inrush i with demands }, none⟩

/-- Stations and outcomes in sorted order, and the budget used. -/
def walked (b : Nat) (figs : FigureTable) (l : List ListEntry) : List (Byte × LpId × EntryOutcome) × Nat :=
  let r := walk b figs (Walk.begin figs) (sortEntries l)
  (r.1.map fun x => (x.1.station, x.1.entry.lp, x.2), r.2)

def stopList : List ListEntry := [stopOf 3 1 2 90, stopOf 12 0 1 120, stopOf 7 2 1 160]

theorem test_stop_round_at_station_9 : walked 100 (s2Figures 530 212 244 15 150) stopList =
    ([(3, 1, .granted), (7, 2, .granted), (12, 0, .deniedCapacity)], 0) := by decide +kernel
theorem test_stop_round_at_station_3 : walked 100 (s2Figures 640 212 244 15 150) stopList =
    ([(3, 1, .granted), (7, 2, .granted), (12, 0, .granted)], 0) := by decide +kernel
theorem test_first_start_round :
    walked 100 (s2Figures 380 150 173 15 150)
      [startOf 14 0 2 45 [(2, 30)], startOf 21 0 6 60 [], startOf 9 0 4 70 [(2, 30)], startOf 9 5 4 25 []] =
    ([(21, 0, .granted), (9, 0, .deferred), (9, 5, .deferred), (14, 0, .deferred)], 60) := by decide +kernel
theorem test_second_start_round :
    walked 100 (s2Figures 380 150 173 15 150) [startOf 9 0 4 70 [(2, 30)], startOf 9 5 4 25 [], startOf 14 0 2 45 [(2, 30)]] =
    ([(9, 0, .granted), (9, 5, .granted), (14, 0, .deferred)], 95) := by decide +kernel
/-- An inrush of 120, above B, at the head of the order is granted alone. -/
theorem test_large_first_start :
    walked 100 (s2Figures 380 150 173 15 150) [startOf 21 0 6 120 [], startOf 9 5 4 25 []] =
    ([(21, 0, .granted), (9, 5, .deferred)], 120) := by decide +kernel
theorem test_start_skipped_on_service_grounds :
    walked 200 (s2Figures 140 100 110 10 0) [startOf 4 2 5 150 [(2, 60)], startOf 6 1 3 25 [], startOf 6 4 1 190 [(2, 20)]] =
    ([(4, 2, .skippedDemand), (6, 1, .granted), (6, 4, .deferred)], 25) := by decide +kernel

theorem test_intent_opens_a_round :
    let s := run (.intent 10 0 [rawStart]) day
    s.round.phase = .opened ∧ s.round.window = .running 400000 ∧ s.round.heard = 1 ∧ s.round.doubtful = false ∧
      s.round.list.map ListEntry.station = [10] := by decide +kernel
theorem test_round_close :
    let s := run .roundClose rich
    s.round.phase = .guarding ∧ s.round.guardT = .running 200000 ∧ s.chans[(4 : LpId)].entryQueued = false ∧
      s.round.last.map (fun r => r.entries.map Prod.snd) = some [.granted, .granted, .deferred] ∧
      (run .guardExpiry s).round.phase = .closed := by decide +kernel

/-- R138: the own stop of a still-open round, granted before, is denied in ADDRESS_CONFLICT. -/
theorem test_own_stop_in_address_conflict :
    (evaluate (rich.withMode { rich.mode with station := some .addressConflict })).1.map Prod.snd =
      [.deniedView, .granted, .deferred] := by decide +kernel

/-! #### Chapters 1, 4, 8, 9 and 10 -/

/-- Section 1.9, station 9: the clamps in check order and the values held. -/
theorem test_station_9_loads_clamped :
    let body := imageOf 9 ⟨77, 2500, 200, 100⟩
      (fun v => if v = 2 then svc2 else if v = 4 then { svc2 with margin := 120 }
        else if v = 7 then { serviceBlank with margin := 250 } else serviceBlank)
      fun i => if i = 3 then { lpBase with activityMode := 1, idleLimit := 5, coastLimit := 0 }
        else if i = 6 then { LpBlock.blank with leader := 6 } else LpBlock.blank
    let s := run (.bodyRead body) (atBody body)
    s.loader.status = some .goodClamped ∧ s.loader.clampCount = 3 ∧ s.loader.firstClamped = some (.plan, 2) ∧
      s.mode.station = some .listenIn ∧ s.config.map (fun c => (c.plan.w, c.services[4].margin, c.services[7].margin)) =
        some (2000, 100, 0) := by decide +kernel
/-- Section 1.9, station 14: ROTATION on an odd load point ends the load. -/
theorem test_station_14_is_rejected :
    let body := imageOf 14 planBase (fun _ => serviceBlank) fun i =>
      if i = 0 then lpBase else if i = 1 then { lpBase with leader := 0, activityMode := 3 }
      else if i = 2 then { lpBase with leader := 1 } else LpBlock.blank
    let s := run (.bodyRead body) (atBody body)
    s.mode.station = some .passive ∧ s.station.address = some 14 ∧ s.alertAsserted = true ∧
      s.faults.station.first = some (.imageStructure 12 (.loadPoint 1)) := by decide +kernel
theorem test_third_attempt_ends_the_load :
    let s := run .loadAttemptFailed (State.reset.withLoader { State.reset.loader with failures := 2 })
    s.mode.station = some .passive ∧ s.faults.station.first = some .imageMissing := by decide +kernel
theorem test_header_of_format_2 :
    (run (.headerRead 2 377 0) State.reset).faults.station.first = some .imageFormat := by decide +kernel

/-- Section 4.10: with an attempt count of 1 the draw is 0 or 1 slot. -/
theorem test_lost_contention :
    (run (.lostContention .toSender 3) (contending .intent .sending 0 day)).link.inProgress =
      some (sendingOf .intent (.lostAwaitingEnd 1) 1) := by decide +kernel
/-- R67 and R75: a first start bit that never reached the line leaves it idle, so no slots mean an attempt at once,
and a backoff ends in one; after a later bit the line is idle only at LINE_IDLE. -/
theorem test_loss_against_the_own_driver :
    let s := contending .reply .sending 0 day
    (run (.lostContention .startUndriven 2) s).link.inProgress = some (sendingOf .reply .sending 1) ∧
    (run (.lostContention .laterUndriven 2) s).link.inProgress = some (sendingOf .reply .waiting 1) ∧
    (let t := run (.lostContention .startUndriven 1) s;
      t.link.inProgress = some (sendingOf .reply (.backingOff (.running 1024)) 1) ∧ t.link.collecting = false ∧
        (run .backoffExpiry t).link.inProgress = some (sendingOf .reply .sending 1)) ∧
    (run .backoffExpiry (run (.lostContention .laterUndriven 1) s)).link.inProgress =
      some (sendingOf .reply .waiting 1) := by decide +kernel
/-- R77: a station whose attempt has just been lost collects the frame on the line, and the characters cut off end
that reception as a format error. -/
theorem test_frame_collected_after_a_loss :
    let t := run (.lostContention .laterUndriven 1) (contending .reply .sending 0 day)
    let e := run .receptionEndedEarly t
    t.link.collecting = true ∧ t.receiving = true ∧ e.link.collecting = false ∧ e.link.counters.formatErrors = 1 ∧
      e.link.inProgress = some (sendingOf .reply (.backingOff (.running 1024)) 1) := by decide +kernel
theorem test_attempt_start :
    (run .attemptStart (run .lineIdle (contending .reply .waiting 0 day))).link.inProgress =
      some (sendingOf .reply .sending 0) := by decide +kernel
/-- R73: after a reception that ended early the line is not idle, and the own attempt waits for it. -/
theorem test_no_attempt_on_a_busy_line :
    let s := run .receptionEndedEarly (run (.attemptStart .other) (run .lineIdle (contending .reply .waiting 0 day)))
    run (.attemptStart .own) s = s ∧
      (run (.attemptStart .own) (run .lineIdle s)).link.inProgress = some (sendingOf .reply .sending 0) := by
  decide +kernel
/-- Section 4.10, station 7: station 3's frame is on the line when the backoff ends, so the attempt waits for an idle
line; station 3's INTENT is taken in, and the attempt follows it. -/
theorem test_backoff_ends_under_a_foreign_frame :
    let a := run .backoffExpiry (run (.attemptStart .other) (run .lineIdle
      (contending .intent (.backingOff (.running 0)) 1 day)))
    let b := run (.intent 3 0 [rawStart]) a
    let c := run (.attemptStart .own) (run .lineIdle b)
    a.link.inProgress = some (sendingOf .intent .waiting 1) ∧ a.receiving = true ∧ a.link.collecting = true ∧
      b.round.list.map ListEntry.station = [3] ∧ b.link.collecting = false ∧
      c.link.inProgress = some (sendingOf .intent .sending 1) := by decide +kernel
/-- R10 and R67: a frame that begins while the loader reads takes the line from idle and is not taken in. -/
theorem test_a_frame_begun_during_the_load_is_missed :
    let s := run (.attemptStart .other) (run .lineIdle State.reset)
    s.link.lineIdle = false ∧ s.link.collecting = false ∧ s.link.awaitIdle = true := by decide +kernel
theorem test_abandon :
    (run (.lostContention .laterUndriven 0) (contending .reply .sending 7 day)).link.inProgress = none ∧
    (run (.lostContention .laterUndriven 0) (contending .reply .sending 7 day)).link.counters.abandoned = 1 := by decide +kernel
theorem test_frame_completed :
    let s := run .frameCompleted (contending (.beacon true) .sending 0 day)
    s.link.inProgress.map (fun f => f.out.origin) = some (.page 0) ∧ s.mode.toggle = true := by decide +kernel
theorem test_counters :
    (run .crcError day).link.counters.crcErrors = 1 ∧ (run .formatError day).link.counters.formatErrors = 1 ∧
    (run .receptionEndedEarly day).link.counters.formatErrors = 1 ∧
    (run .foreignToolFrame day).link.counters.accepted = 1 := by decide +kernel
theorem test_conflict :
    (run .addressConflict day).mode.station = some .addressConflict ∧
    (run .addressConflict day).flagSet .addressConflict = true := by decide +kernel
theorem test_silence :
    let s := run .silenceTimerExpiry (link (fun l => { l with silence := .running 0 }) day)
    s.mode.isolated = true ∧ s.link.latch = true ∧ s.flagSet .isolated = true := by decide +kernel

/-- Section 8.11, 02:10:08: a peer's night flag takes the station to NIGHT, and both load points are watched. -/
theorem test_listen_in_ends_in_night :
    let s := run .listenInTimerExpiry ((peers [{ peer 10 with night := true }] listen).withStation
      { listen.station with followPlantNight := 1 })
    s.mode.station = some .active ∧ s.mode.plant = .night ∧ s.chans[(0 : LpId)].state = .idleWatch := by decide +kernel
theorem test_listen_in_ends_in_day : (run .listenInTimerExpiry listen).mode.plant = .day := by decide +kernel
/-- R85: of both timers expired in one event the listen-in timer is taken first, so the beacon is no LISTEN_IN beacon.
-/
theorem test_listen_in_ends_before_the_beacon :
    let s := run .beaconTimerExpiry (listen.withMode { listen.mode with listenIn := .running 0, beaconT := .running 0 })
    s.mode.station = some .active ∧ (s.link.inProgress.bind fun f => f.out.frame.payload[0]?) = some 1 := by
  decide +kernel
theorem test_beacon_sequence_wraps :
    let s := run .beaconTimerExpiry (day.withMode { day.mode with seq := 255 })
    s.mode.seq = 0 ∧ s.mode.beaconT = .running 2000000 ∧
      s.link.inProgress.map (fun f => f.out.frame.seq) = some 255 := by decide +kernel

/-- Section 9.10: the recall stays below the threshold, the coast overrun asserts ALERT, the stuck output leads. -/
theorem test_worked_night_alerts :
    let a := day.raise .recalled
    let b := a.raise .lpFault
    let c := b.raise .outputStuck
    a.alertAsserted = false ∧ a.topAlert = some (.recalled, 1) ∧ b.alertAsserted = true ∧
      b.topAlert = some (.lpFault, 5) ∧ c.topAlert = some (.outputStuck, 7) := by decide +kernel
theorem test_coast_overrun :
    let s := run (.coastTimerExpiry 2) ((put .coasting 2 night).withFaults { night.faults with uptime := 514200 })
    s.chans[(2 : LpId)].state = .coasting ∧ s.faults.lps[(2 : LpId)].first = some .coastOverrun ∧
      s.faults.lps[(2 : LpId)].firstTime = 514200 ∧ s.faults.lps[(2 : LpId)].locking = false := by decide +kernel
theorem test_output_stuck :
    let s := run (.readBackWatchExpiry 2) (chan 2 (fun c => { c with watch := .running 0 }) stopped)
    s.chans[(2 : LpId)].state = .lockout ∧ s.chans[(2 : LpId)].lockout = .hard ∧ s.stopLine 2 = false ∧
      s.flagSet .outputStuck = true ∧ s.flagSet .lpFault = true := by decide +kernel
theorem test_read_back_watch :
    (run (.stoprbEdge 0 true) day).chans[(0 : LpId)].watch = .running 200000 ∧
    (run (.stoprbEdge 0 false) (run (.stoprbEdge 0 true) day)).chans[(0 : LpId)].watch = .off := by decide +kernel
theorem test_uptime_wraps :
    (run .uptimeTick (day.withFaults { day.faults with uptime := 4294967295 })).faults.uptime = 0 := by decide +kernel

/-- The payload of the frame the station last took to send. -/
def answer (s : State) : Option (List Byte) := s.link.inProgress.map fun f => f.out.frame.payload

/-- R58: a hard lockout refuses CLEAR_LOCKOUT, and the detail names the load point. -/
theorem test_hard_lockout_refused :
    answer (run (.clearLockout 1 5) (chan 2 (fun c => { c with lockout := .hard }) (put .lockout 2 day))) =
      some [9, 2, 3, 5, 4] := by decide +kernel
theorem test_bad_table_and_directive :
    answer (run (.badTable 1 9 0 0) day) = some [8, 9, 3, 1, 0] ∧
    answer (run (.badDirective 1 8 0) day) = some [9, 8, 3, 3, 0] := by decide +kernel
theorem test_accepted_directives :
    answer (run (.excludeLps 1 1) day) = some [9, 3, 2] ∧
    (run (.excludeLps 1 1) day).chans[(0 : LpId)].state = .excluded ∧
    (run (.includeLps 1 1) (run (.excludeLps 1 1) day)).chans[(0 : LpId)].state = .running ∧
    (run (.clearAlerts 1 511) (day.raise .isolated)).topAlert = none ∧
    (run (.forgetPeer 1 10) (peers [peer 10] day)).peers.entries = [] := by decide +kernel
/-- Section 11.3: the sizes of the records. -/
theorem test_record_sizes :
    (statusTable day).map List.length = 35 :: (List.replicate 12 9 ++ List.replicate 8 16) ∧
    (runtimeTable day).map List.length = List.replicate 8 30 ∧ (faultTable day).map List.length = List.replicate 9 13 ∧
    (counterRecord day).length = 15 ∧
    (echoTable day).map List.length = 17 :: 8 :: (List.replicate 12 7 ++ List.replicate 8 34) := by
  decide +kernel
theorem test_counters_are_cleared_by_their_read :
    (run (.inquiryCounters 1 0 1) (run .crcError day)).link.counters = LinkCounters.zero ∧
    (answer (run (.inquiryCounters 1 0 1) (run .crcError day))).map (List.take 6) = some [8, 6, 1, 0, 1, 1] := by
  decide +kernel
theorem test_restart_listens_in :
    let s := run (.restart 1) stopped
    s.mode.station = some .listenIn ∧ s.mode.listenIn = .running 8000000 ∧ s.chans[(0 : LpId)].state = .running ∧
      s.chans[(2 : LpId)].state = .stopped := by decide +kernel

/-- R84 and R90: a beacon that calls for an announcement is discarded by the restart, and its announcement is handed. -/
theorem test_restart_hands_the_announcement :
    let s := run (.restart 1) (contending (.beacon true) .waiting 0 day)
    s.link.waitPages.map OutFrame.origin = [.page 0, .page 1, .page 2] ∧ s.mode.toggle = true ∧
      s.link.inProgress.map (fun f => f.out.origin) = some (.beacon true) ∧
      (run (.restart 1) (contending (.beacon false) .waiting 0 day)).link.waitPages = [] := by decide +kernel

/-- A step takes the command at the front of the queue. -/
theorem test_step : (match step (day.withPending [.uptimeTick, .lineIdle]) with
    | .next t => (t.pending, t.faults.uptime)
    | _ => ([], 0)) = ([.lineIdle], 1) := by decide +kernel

end Sys2Proof.Tests
end

section
/-! PROOFS for chapter 2, the activity counters: an edge of a phase (R22). -/

namespace Sys2Proof.Machine

/-! ### Partners and the level of one line -/

theorem partner_ne (i : LpId) : partner i ≠ i := by
  revert i; decide

theorem setAct_lines (i : LpId) (high : Bool) (s : State) :
    (setAct i high s).lines = s.lines.set i { s.lines[i] with act := some high } := rfl

@[simp] theorem setAct_units (i : LpId) (high : Bool) (s : State) : (setAct i high s).units = s.units := rfl

theorem setAct_lines_of_ne {i j : LpId} (h : j ≠ i) (high : Bool) (s : State) :
    (setAct i high s).lines[j] = s.lines[j] := by
  rw [setAct, setLines_lines, if_neg h]

/-! ### The unit whose position an edge steps -/

/-- The ROTATION unit `a` counts the edges of line `i`: its own line is phase A, its PAIRED partner's phase B (R22). -/
def State.CountsPhase (s : State) (i a : LpId) : Prop :=
  a = i ∧ s.unitMode i = .rotation ∨ a = partner i ∧ s.unitMode i = .paired ∧ s.unitMode (partner i) = .rotation

theorem State.CountsPhase.rotation {s : State} {i a : LpId} (h : s.CountsPhase i a) : s.unitMode a = .rotation := by
  rcases h with ⟨rfl, hrot⟩ | ⟨rfl, -, hrot⟩ <;> exact hrot

/-- Taking a level changes no unit's mode. -/
theorem State.CountsPhase.setAct {s : State} {i a : LpId} (h : s.CountsPhase i a) (high : Bool) :
    (setAct i high s).CountsPhase i a := h

/-- The model finds the counting unit by the mode of the line's own unit. -/
theorem State.CountsPhase.unit_eq {s : State} {i a : LpId} (h : s.CountsPhase i a) :
    (if s.unitMode i = .rotation then i else partner i) = a := by
  rcases h with ⟨rfl, hrot⟩ | ⟨rfl, hpaired, -⟩
  · rw [if_pos hrot]
  · simp [hpaired]

/-- A line that a ROTATION unit counts is a line whose own unit the command is for. -/
theorem State.CountsPhase.mode {s : State} {i a : LpId} (h : s.CountsPhase i a) :
    s.unitMode i ≠ .none ∧ s.unitMode i ∈ [ActMode.rotation, .paired] := by
  rcases h with ⟨-, hmode⟩ | ⟨-, hmode, -⟩ <;> simp [hmode]

/-! ### The edge -/

/-- An edge at a level other than the line's, for a unit of one of the command's modes: the line takes the level, then
the mode's own rule applies. -/
theorem actEdge_of_change {modes : List ActMode} {i : LpId} {high l : Bool} {s : State} (k : State → State)
    (hload : s.loaded = true) (hline : s.lines[i].act = some l) (hne : l ≠ high) (hnone : s.unitMode i ≠ .none)
    (hmem : s.unitMode i ∈ modes) : actEdge modes k i high s = k (setAct i high s) := by
  simp only [actEdge, hload, List.contains_iff_mem.mpr hmem, Bool.or_true, Bool.and_self, if_true, hline, hne, if_false,
    hnone]

theorem stepPosition_of_none {i : LpId} {s : State} (high : Bool) (h : s.lines[partner i].act = none) :
    stepPosition i high s = s := by
  simp only [stepPosition, h]

theorem stepPosition_of_some {i a : LpId} {other : Bool} {s : State} (high : Bool)
    (h : s.lines[partner i].act = some other) (ha : s.CountsPhase i a) :
    stepPosition i high s =
      s.setUnit a { s.units[a] with count := s.units[a].count + quadratureStep (i == a) high other } := by
  simp only [stepPosition, h, ha.unit_eq, ha.rotation, if_true]

theorem exec_quadratureEdge {i a : LpId} {high l : Bool} {s : State} (hload : s.loaded = true)
    (hline : s.lines[i].act = some l) (hne : l ≠ high) (ha : s.CountsPhase i a) :
    exec (.quadratureEdge i high) s = .next (stepPosition i high (setAct i high s)) := by
  obtain ⟨hnone, hmem⟩ := ha.mode
  exact congrArg Host.Outcome.next (actEdge_of_change (stepPosition i high) hload hline hne hnone hmem)

/-! ### The table of R22 -/

/-- An edge of phase A counts up to a level unlike phase B's, down to one like it. -/
theorem add_quadratureStep_phaseA (x : BitVec 16) (high other : Bool) :
    x + quadratureStep true high other = if high = other then x - 1 else x + 1 := by
  cases high <;> cases other <;> simp [quadratureStep, BitVec.sub_eq_add_neg]

/-- An edge of phase B counts up to a level like phase A's, down to one unlike it. -/
theorem add_quadratureStep_phaseB (x : BitVec 16) (high other : Bool) :
    x + quadratureStep false high other = if high = other then x + 1 else x - 1 := by
  cases high <;> cases other <;> simp [quadratureStep, BitVec.sub_eq_add_neg]

/-- Settles O12. The line takes its level first; the other phase's line is another one, so the step reads the level
that phase had before the edge. -/
theorem quadratureEdgesStep : Obligations.QuadratureEdgesStep := by
  intro i a high l s hload hline hne ha
  replace ha : s.CountsPhase i a := ha
  have hother : (setAct i high s).lines[partner i] = s.lines[partner i] := setAct_lines_of_ne (partner_ne i) high s
  rw [exec_quadratureEdge hload hline hne ha, ← hother]
  refine ⟨fun hnone => by rw [stepPosition_of_none high hnone, setAct], fun other hsome => ?_⟩
  rw [stepPosition_of_some high hsome (ha.setAct high)]
  have hunits (j : LpId) := setUnit_units (setAct i high s) a j
    { s.units[a] with count := s.units[a].count + quadratureStep (i == a) high other }
  refine ⟨_, rfl, rfl, setAct_lines i high s, fun j hj => (hunits j).trans (if_neg hj), ?_, ?_⟩
  all_goals simp only [hunits, if_true, setAct_units]
  by_cases hphase : a = i
  · subst hphase
    simp only [beq_self_eq_true, add_quadratureStep_phaseA]
    cases high <;> cases other <;> simp
  · simp only [beq_false_of_ne (Ne.symm hphase), add_quadratureStep_phaseB]
    cases high <;> cases other <;> simp [hphase]

end Sys2Proof.Machine
end

section
/-! PROOFS for chapter 6, the balance calculator: the figures D(s), C(s) and R(s) (R105 to R107). -/

namespace Sys2Proof.Machine

/-! ### The counting sets (R38) -/

theorem LpState.countsDemand_iff (st : LpState) :
    st.countsDemand = true ↔ st ≠ .unused ∧ st ≠ .stopped ∧ st ≠ .startPending := by
  cases st <;> simp [LpState.countsDemand]

theorem LpState.countsCapacity_iff (st : LpState) :
    st.countsCapacity = true ↔ st = .running ∨ st = .idleWatch ∨ st = .stopPending ∨ st = .manual ∨ st = .excluded ∨
      st = .lockout := by
  cases st <;> simp [LpState.countsCapacity]

/-! ### What a load point provides and what a peer entry holds -/

theorem State.provided_eq_some_iff (s : State) (i : LpId) (v : SvcId) :
    s.provided i = some v ↔ s.inUse i = true ∧ (s.block i).providesOf = some v := by
  simp only [State.provided, Option.ite_none_right_eq_some]

/-- A figure of the item an entry holds for a service; an entry without one counts 0. -/
theorem PeerEntry.getD_figure (e : PeerEntry) (v : SvcId) (value : Figure → Nat) :
    ((e.figure v).map value).getD 0 = match e.figures.find? fun f => f.service = v with
      | some f => value f
      | none => 0 := by
  change ((e.figures.find? fun f => f.service = v).map value).getD 0 = _
  cases e.figures.find? fun f => f.service = v <;> rfl

/-! ### The sums (R105, R106) -/

theorem State.ownDemand_eq (s : State) (v : SvcId) :
    s.ownDemand v = (lpIds.map fun i => if s.inUse i = true ∧ s.chans[i].state ≠ .unused ∧
      s.chans[i].state ≠ .stopped ∧ s.chans[i].state ≠ .startPending then
        (((s.block i).demands.filter fun d => d.1 = v).map Prod.snd).sum else 0).sum := by
  refine congrArg List.sum (List.map_congr_left fun i _ => if_congr ?_ rfl rfl)
  rw [Bool.and_eq_true, LpState.countsDemand_iff]

theorem State.peerDemand_eq (s : State) (v : SvcId) :
    s.peerDemand v = (s.peers.entries.map fun e => match e.figures.find? fun f => f.service = v with
      | some f => f.demand.toNat
      | none => 0).sum :=
  congrArg List.sum (List.map_congr_left fun e _ => e.getD_figure v fun f => f.demand.toNat)

theorem State.ownCapacity_eq (s : State) (v : SvcId) :
    s.ownCapacity v = (lpIds.map fun i => if s.inUse i = true ∧ (s.block i).providesOf = some v ∧
      s.runPresent i = true ∧ (s.chans[i].state = .running ∨ s.chans[i].state = .idleWatch ∨
        s.chans[i].state = .stopPending ∨ s.chans[i].state = .manual ∨ s.chans[i].state = .excluded ∨
        s.chans[i].state = .lockout) then (s.block i).capacity.toNat else 0).sum := by
  refine congrArg List.sum (List.map_congr_left fun i _ => if_congr ?_ rfl rfl)
  rw [Bool.and_eq_true, Bool.and_eq_true, beq_iff_eq, State.provided_eq_some_iff, LpState.countsCapacity_iff,
    and_right_comm, and_assoc, and_assoc]

theorem State.peerCapacity_eq (s : State) (v : SvcId) :
    s.peerCapacity v = (s.peers.entries.map fun e => if e.freshness = .fresh ∧ e.planState = .matched then
        match e.figures.find? fun f => f.service = v with
        | some f => f.capacity.toNat
        | none => 0
      else 0).sum := by
  refine congrArg List.sum (List.map_congr_left fun e _ => if_congr ?_ ?_ rfl)
  · rw [Bool.and_eq_true, beq_iff_eq, beq_iff_eq]
  · exact e.getD_figure v fun f => f.capacity.toNat

theorem State.demand_le (s : State) (v : SvcId) : s.demand v ≤ 65535 := Nat.min_le_left ..

theorem State.capacity_le (s : State) (v : SvcId) : s.capacity v ≤ 65535 := Nat.min_le_left ..

/-- Settles O38. R105 adds the own and the peer sum before it limits, so each is rewritten on its own. -/
theorem demandIsTheLimitedSum : Obligations.DemandIsTheLimitedSum := fun s v =>
  ⟨congrArg (min 65535) (congrArg₂ (· + ·) (s.ownDemand_eq v) (s.peerDemand_eq v)), s.demand_le v⟩

/-- Settles O39. R106 forms and limits the sum as R105 does. -/
theorem capacityIsTheLimitedSum : Obligations.CapacityIsTheLimitedSum := fun s v =>
  ⟨congrArg (min 65535) (congrArg₂ (· + ·) (s.ownCapacity_eq v) (s.peerCapacity_eq v)), s.capacity_le v⟩

/-! ### The required capacity (R107) -/

/-- Adding 99 before the division by 100 rounds up. -/
theorem natCeil_div_hundred (n : ℕ) : ⌈(n : ℚ) / 100⌉₊ = (n + 99) / 100 := by
  refine eq_of_forall_ge_iff fun k => ?_
  rw [Nat.ceil_le, div_le_iff₀ (by norm_num)]
  norm_cast
  omega

theorem requiredFor_eq_ceil (cmin margin demand : Nat) :
    requiredFor cmin margin demand = max cmin ⌈((demand * (100 + margin) : ℕ) : ℚ) / 100⌉₊ := by
  rw [natCeil_div_hundred, requiredFor]

/-- The greatest demand at the greatest margin is the largest requirement; a minimum is a two-byte field below it. -/
theorem requiredFor_le {cmin margin demand : Nat} (hcmin : cmin ≤ 131070) (hmargin : margin ≤ 100)
    (hdemand : demand ≤ 65535) : requiredFor cmin margin demand ≤ 131070 := by
  have hproduct : demand * (100 + margin) ≤ 65535 * (100 + 100) := Nat.mul_le_mul hdemand (by omega)
  exact max_le hcmin (by omega)

/-- Settles O40. The bound rests on that of the demand; the rows of the table are evaluated. -/
theorem requiredCapacityRoundsUp : Obligations.RequiredCapacityRoundsUp := by
  refine ⟨fun s v => ⟨rfl, fun hmargin => ?_⟩, requiredFor_eq_ceil, ?_⟩
  · have hcmin : (s.svcBlock v).cmin.toNat ≤ 131070 := by omega
    exact requiredFor_le hcmin hmargin (s.demand_le v)
  · decide

end Sys2Proof.Machine
end

section
/-! PROOFS, the layer of the steps: the elementary operations that every command is made of, each with the condition
under which the model takes it. An invariant is shown for each of them once. -/

namespace Sys2Proof.Machine

/-! ### Elementary operations -/

/-- The station listens in, is ACTIVE or stands in ADDRESS_CONFLICT. -/
abbrev State.Working (s : State) : Prop := s.mode.station ≠ none ∧ s.mode.station ≠ some .passive

/-- A frame may be handed: the station is at work, or its loader has finished. -/
abbrev State.MaySend (s : State) : Prop := s.Working ∨ s.loader.phase = .done

/-- The link holds no frame. -/
abbrev Link.Empty (l : Link) : Prop :=
  l.inProgress = none ∧ l.pagesLeft = [] ∧ l.waitIntent = none ∧ l.waitReply = none ∧ l.waitPages = [] ∧
    l.waitBeacon = none

/-- A channel that a rule may act on: in use, or not as an unused one is held. -/
abbrev State.Touchable (s : State) (i : LpId) : Prop :=
  s.inUse i = true ∨ s.chans[i] ≠ Chan.powerOn .unused 0

/-- One elementary operation. The conditions are those that the invariants of the station need. -/
inductive Move (s : State) : State → Prop where
  | enter (cause : Option StartCause) (i : LpId) (st : LpState) (used : s.Touchable i)
      (hard : s.chans[i].HardHeld → st = .lockout ∨ st = .manual) : Move s (enterFor cause i st s)
  | chan (i : LpId) (c : Chan) (used : s.Touchable i) (state : c.state = s.chans[i].state)
      (queued : c.entryQueued = s.chans[i].entryQueued) (wf : s.chans[i].Wf → c.Wf)
      (hard : s.chans[i].HardHeld → c.lockout = .hard) : Move s (s.setChan i c)
  | withdraw (i : LpId) : Move s (withdraw i s)
  | post (i : LpId) (a : Action) (c : Cause) (used : s.Touchable i)
      (pending : s.chans[i].state = .stopPending ∨ s.chans[i].state = .startPending) : Move s (post i a c s)
  | toWake (i : LpId) : Move s (s.withRound { s.round with queue := s.round.queue.map (entryToWake i) })
  | round (r : Round) (queue : r.queue = s.round.queue) (pairs : s.RoundPairs → (s.withRound r).RoundPairs) :
      Move s (s.withRound r)
  | units (us : Vector ActUnit 8) (follow : ∀ i : LpId, us[i].armed = s.units[i].armed ∧
      us[i].coasting = s.units[i].coasting ∧ (s.units[i].dirCount ≤ 255 → us[i].dirCount ≤ 255)) :
      Move s (s.withUnits us)
  | svcs (x : Vector SvcBalance 12) : Move s (s.withSvcs x)
  | provs (x : Vector ProvBalance 8) : Move s (s.withProvs x)
  | lines (x : Vector Lines 8) : Move s (s.withLines x)
  | link (l : Link) (wf : s.link.Wf → l.Wf) (empty : s.MaySend ∨ (s.link.Empty → l.Empty)) : Move s (s.withLink l)
  | peers (p : PeerTable) (wf : s.peers.Wf → p.Wf) : Move s (s.withPeers p)
  | mode (m : ModeCtl)
      (station : m.station = s.mode.station ∨ s.MaySend ∧ m.station ≠ none ∧ m.station ≠ some .passive) :
      Move s (s.withMode m)
  | raise (c : EventClass) : Move s (s.raise c)
  | report (i : LpId) (code : FaultCode) (locking : Bool) : Move s (reportLp i code locking s)
  | answered : Move s (s.withLoader { s.loader with replySeq := none })

/-- Elementary operations, one after another. -/
abbrev Moves : State → State → Prop := Relation.ReflTransGen Move

/-- What every elementary operation keeps, a run of them keeps. -/
theorem Moves.keeps {P : State → Prop} (h : ∀ s t, Move s t → P s → P t) {s t : State} (m : Moves s t) (hs : P s) :
    P t := by
  induction m with
  | refl => exact hs
  | tail _ hm ih => exact h _ _ hm ih

theorem Move.moves {s t : State} (h : Move s t) : Moves s t := .single h

/-- An operation after a run of them. -/
theorem Moves.then {s t u : State} (h : Moves s t) (h' : Moves t u) : Moves s u := Relation.ReflTransGen.trans h h'

theorem Moves.none {s : State} : Moves s s := .refl

theorem Moves.ite {s a b : State} {p : Prop} [Decidable p] (ha : p → Moves s a) (hb : ¬p → Moves s b) :
    Moves s (if p then a else b) := by
  split
  · exact ha ‹_›
  · exact hb ‹_›

/-! ### What no elementary operation changes -/

theorem Move.phase {s t : State} (h : Move s t) : t.loader.phase = s.loader.phase := by
  cases h <;> simp [State.setChan, State.raise]
theorem Move.config {s t : State} (h : Move s t) : t.config = s.config := by cases h <;> simp [State.setChan, State.raise]
theorem Move.station {s t : State} (h : Move s t) : t.station = s.station := by cases h <;> simp [State.setChan, State.raise]
theorem Move.pending {s t : State} (h : Move s t) : t.pending = s.pending := by cases h <;> simp [State.setChan, State.raise]
theorem Move.uptime {s t : State} (h : Move s t) : t.faults.uptime = s.faults.uptime := by
  cases h <;> simp [State.setChan, reportLp]

theorem Moves.read {α : Type} {f : State → α} (h : ∀ s t, Move s t → f t = f s) {s t : State} (m : Moves s t) :
    f t = f s :=
  Moves.keeps (P := fun u => f u = f s) (fun _ _ hm hu => (h _ _ hm).trans hu) m rfl

theorem Moves.phase {s t : State} (m : Moves s t) : t.loader.phase = s.loader.phase := m.read fun _ _ => Move.phase
theorem Moves.config {s t : State} (m : Moves s t) : t.config = s.config := m.read fun _ _ => Move.config
theorem Moves.station {s t : State} (m : Moves s t) : t.station = s.station := m.read fun _ _ => Move.station
theorem Moves.pending {s t : State} (m : Moves s t) : t.pending = s.pending := m.read fun _ _ => Move.pending
theorem Moves.uptime {s t : State} (m : Moves s t) : t.faults.uptime = s.faults.uptime := m.read fun _ _ => Move.uptime

theorem State.block_congr {s t : State} (h : t.config = s.config) (i : LpId) : t.block i = s.block i := by
  simp only [State.block, h]
theorem State.inUse_congr {s t : State} (h : t.config = s.config) (i : LpId) : t.inUse i = s.inUse i := by
  simp only [State.inUse, State.block, h]
theorem State.leader_congr {s t : State} (h : t.config = s.config) (i : LpId) : t.leader i = s.leader i := by
  simp only [State.leader, State.inUse_congr h, State.block_congr h]

/-- A station at work stays at work. -/
theorem Move.maySend {s t : State} (h : Move s t) (hs : s.MaySend) : t.MaySend := by
  cases h
  case mode m hm =>
    simp only [State.MaySend, State.Working, State.withMode_mode, State.withMode_loader] at *
    rcases hm with hm | ⟨-, hm⟩
    · rw [hm]; exact hs
    · exact .inl hm
  all_goals simpa [State.MaySend, State.Working, State.setChan, State.raise] using hs

theorem Moves.maySend {s t : State} (m : Moves s t) (hs : s.MaySend) : t.MaySend :=
  m.keeps (fun _ _ => Move.maySend) hs

/-! ### Conditions that the rules give -/

theorem State.touchable_of_state {s : State} {i : LpId} (h : s.chans[i].state ≠ .unused) : s.Touchable i :=
  .inr fun h' => h (by rw [h']; rfl)

/-- A channel outside LOCKOUT and MANUAL is not held by a hard lockout. -/
theorem Chan.not_hardHeld {c : Chan} (h1 : c.state ≠ .lockout) (h2 : c.state ≠ .manual) : ¬c.HardHeld :=
  fun h => h.2.elim h1 h2

/-- A channel leaves a state other than UNUSED, LOCKOUT and MANUAL for any state. -/
theorem enterFor_moves {s : State} (cause : Option StartCause) {i : LpId} (st : LpState)
    (h : s.chans[i].state ≠ .unused ∧ s.chans[i].state ≠ .lockout ∧ s.chans[i].state ≠ .manual) :
    Moves s (enterFor cause i st s) :=
  (Move.enter cause i st (State.touchable_of_state h.1) fun h' => absurd h' (Chan.not_hardHeld h.2.1 h.2.2)).moves

theorem enter_moves {s : State} {i : LpId} (st : LpState)
    (h : s.chans[i].state ≠ .unused ∧ s.chans[i].state ≠ .lockout ∧ s.chans[i].state ≠ .manual) :
    Moves s (enter i st s) := enterFor_moves none st h

/-- A channel's record changes with its state, queue mark, saturation and lockout kind kept. -/
theorem setChan_moves {s : State} {i : LpId} {c : Chan} (used : s.Touchable i) (state : c.state = s.chans[i].state)
    (queued : c.entryQueued = s.chans[i].entryQueued) (wf : s.chans[i].Wf → c.Wf)
    (hard : c.lockout = s.chans[i].lockout) : Moves s (s.setChan i c) :=
  (Move.chan i c used state queued wf fun h => hard.trans h.1).moves

theorem setUnit_moves {s : State} {i : LpId} {u : ActUnit} (ha : u.armed = s.units[i].armed)
    (hc : u.coasting = s.units[i].coasting) (hd : s.units[i].dirCount ≤ 255 → u.dirCount ≤ 255) :
    Moves s (s.setUnit i u) := by
  refine (Move.units (s.units.set i u) fun j => ?_).moves
  rw [get_set_lp]
  split
  · subst j; exact ⟨ha, hc, hd⟩
  · exact ⟨rfl, rfl, id⟩

theorem setLines_moves (s : State) (i : LpId) (l : Lines) : Moves s (s.setLines i l) := (Move.lines _).moves
theorem setSvc_moves (s : State) (v : SvcId) (b : SvcBalance) : Moves s (s.setSvc v b) := (Move.svcs _).moves
theorem setProv_moves (s : State) (i : LpId) (b : ProvBalance) : Moves s (s.setProv i b) := (Move.provs _).moves
theorem raise_moves (s : State) (c : EventClass) : Moves s (s.raise c) := (Move.raise c).moves

/-! ### The operations of the channels and the balance -/

theorem setChan_chans_self (s : State) (i : LpId) (c : Chan) : (s.setChan i c).chans[i] = c := by
  rw [setChan_chans, if_pos rfl]

theorem enterFor_chans_self (s : State) (c : Option StartCause) (i : LpId) (st : LpState) :
    ((enterFor c i st s).chans[i]).state = st := by
  rw [enterFor_chans, if_pos rfl]
  exact (entryFields_keeps s i c st _).1

/-- An in-use channel's record changes with its state, queue mark and lockout kind kept. -/
theorem takeBack_moves {s : State} {i : LpId}
    (h : s.chans[i].state ≠ .unused ∧ s.chans[i].state ≠ .lockout ∧ s.chans[i].state ≠ .manual) :
    Moves s (takeBack i s) := by
  have hst : (enter i .running s).chans[i].state = .running := enterFor_chans_self s none i .running
  have hu : (enter i .running s).Touchable i := State.touchable_of_state (by simp [hst, -Fin.getElem_fin])
  refine ((enter_moves .running h).then (setChan_moves hu (by rfl) (by rfl) (fun hw => ?_) (by rfl))).then
    (raise_moves _ _)
  exact ⟨hw.1, hw.2.1, hw.2.2.1, hw.2.2.2.1, hw.2.2.2.2.1, hw.2.2.2.2.2.1, Nat.min_le_left _ _⟩

theorem nightAnswer_moves (s : State) (i : LpId) : Moves s (nightAnswer s i) := by
  unfold nightAnswer
  refine Moves.ite (fun hu => ?_) fun _ => Moves.none
  have hm : Moves s (s.setChan i { s.chans[i] with retry := (s.block i).retries.toNat, autoOff := false }) :=
    setChan_moves (.inl hu) rfl rfl id rfl
  refine Moves.ite (fun hc => hm.then (enter_moves _ ?_)) fun _ => hm
  rw [setChan_chans_self]
  simp [hc.1, -Fin.getElem_fin]

theorem wakeAnswer_moves (s : State) (i : LpId) : Moves s (wakeAnswer s i) := by
  unfold wakeAnswer
  refine Moves.ite (fun hu => ?_) fun _ => Moves.none
  split <;> rename_i hst
  case h_1 => exact enterFor_moves _ _ (by simp [hst, -Fin.getElem_fin])
  case h_2 =>
    refine (Move.toWake i).moves.then (setChan_moves (.inl hu) rfl rfl (fun hw => ?_) rfl)
    obtain ⟨h1, h2, h3, h4, -, h6⟩ := hw
    exact ⟨h1, h2, h3, h4, fun hne => absurd hst hne, h6⟩
  case h_6 => exact Moves.none
  all_goals exact enter_moves _ (by simp [hst, -Fin.getElem_fin])

theorem dayAnswer_moves (s : State) (i : LpId) : Moves s (dayAnswer s i) := by
  unfold dayAnswer
  refine Moves.ite (fun h => enter_moves _ ?_) fun _ => Moves.none
  simp only [Bool.and_eq_true, beq_iff_eq] at h
  simp [h.2, -Fin.getElem_fin]

/-- Walking a list takes operations when each element does. -/
theorem foldl_moves {β : Type} {g : State → β → State} (h : ∀ s x, Moves s (g s x)) :
    ∀ (l : List β) (s : State), Moves s (l.foldl g s)
  | [], _ => Moves.none
  | x :: xs, s => (h s x).then (foldl_moves h xs _)

/-- A change of the mode controller that leaves the station state. -/
theorem withMode_moves {s : State} {m : ModeCtl} (h : m.station = s.mode.station) : Moves s (s.withMode m) :=
  (Move.mode m (.inl h)).moves

theorem enterMode_moves (m : PlantMode) (s : State) : Moves s (enterMode m s) := by
  have hp : Moves s (s.withMode { s.mode with plant := m }) := withMode_moves rfl
  cases m
  · exact hp.then (foldl_moves dayAnswer_moves _ _)
  · exact hp.then (foldl_moves nightAnswer_moves _ _)
  · exact hp.then (foldl_moves wakeAnswer_moves _ _)

theorem decideMode_moves (s : State) : Moves s (decideMode s) := enterMode_moves _ s

theorem shortAnswer_moves (v : SvcId) (s : State) (i : LpId) : Moves s (shortAnswer v s i) := by
  unfold shortAnswer
  refine Moves.ite (fun h => enterFor_moves _ _ ?_) fun _ => Moves.none
  simp only [Bool.and_eq_true, beq_iff_eq] at h
  simp [h.2, -Fin.getElem_fin]

theorem setForce_moves (v : SvcId) (on : Bool) (s : State) : Moves s (setForce v on s) := by
  unfold setForce
  have hs := setSvc_moves s v { s.svcs[v] with inForce := on }
  exact Moves.ite (fun _ => hs.then (foldl_moves (shortAnswer_moves v) _ _)) fun _ => hs

theorem grantEntry_moves (q : QueueEntry) (s : State) : Moves s (grantEntry q s) := by
  unfold grantEntry
  dsimp only
  split <;> rename_i hst
  · exact enter_moves _ (by simp [hst, -Fin.getElem_fin])
  · exact enter_moves _ (by simp [hst, -Fin.getElem_fin])
  · exact (Move.withdraw _).moves

/-! ### The operations of the link -/

/-- Taking the next frame keeps the counts, and takes none where none is held. -/
theorem takeNext_wf {l : Link} (h : l.Wf) : l.takeNext.Wf := by
  refine ⟨by simpa only [takeNext_counters] using h.1, fun t ht => ?_⟩
  cases hp : l.inProgress with
  | some x =>
    rw [takeNext_of_inProgress l hp] at ht
    exact h.2 t ht
  | none => exact (takeNext_fresh l hp ht).1 ▸ Nat.zero_le 7

theorem takeNext_empty {l : Link} (h : l.Empty) : l.takeNext = l := by
  obtain ⟨hp, h1, h2, h3, h4, h5⟩ := h
  simp [Link.takeNext, hp, h1, h2, h3, h4, h5]

/-- The link changes in what neither the counts nor the frame in progress depend on, then takes the next frame. -/
theorem withLink_takeNext_moves {s : State} {l : Link} (hs : s.MaySend) (hc : l.counters = s.link.counters)
    (hp : l.inProgress = s.link.inProgress) : Moves s (s.withLink l.takeNext) :=
  (Move.link _ (fun h => takeNext_wf ⟨hc ▸ h.1, hp ▸ h.2⟩) (.inl hs)).moves

/-- A station that beacons is at work. -/
theorem State.maySend_of_beaconing {s : State} (h : s.beaconing = true) : s.MaySend := by
  refine .inl ⟨fun h' => ?_, fun h' => ?_⟩ <;>
    simp [State.beaconing, State.listening, State.isActive, h'] at h

theorem announce_moves (s : State) : Moves s (announce s) := by
  unfold announce
  refine Moves.ite (fun h => ?_) fun _ => Moves.none
  simp only [Bool.and_eq_true] at h
  exact (withLink_takeNext_moves (State.maySend_of_beaconing h.1) (by rfl) (by rfl)).then (withMode_moves (by rfl))

theorem beaconOutcome_moves (b : Bool) (s : State) : Moves s (beaconOutcome b s) :=
  Moves.ite (fun _ => announce_moves s) fun _ => Moves.none

theorem handBeacon_moves {s : State} (h : s.MaySend) (b : Bool) : Moves s (handBeacon b s) := by
  have hm : Moves s ((s.withLink { s.link with waitBeacon := some (s.beaconFrame b) }.takeNext).withMode
      { s.mode with seq := s.mode.seq + 1 }) := (withLink_takeNext_moves h (by rfl) (by rfl)).then (withMode_moves (by rfl))
  unfold handBeacon
  dsimp only
  split
  · exact hm.then (beaconOutcome_moves _ _)
  · exact hm

theorem handReply_moves {s : State} (h : s.MaySend) (q : Byte) (p : List Byte) : Moves s (handReply q p s) :=
  Moves.ite (fun _ => withLink_takeNext_moves h (by rfl) (by rfl)) fun _ => Moves.none

/-- A change of the link that neither takes nor loses a frame, nor counts one beyond its limit. -/
theorem withLink_moves {s : State} {l : Link} (hc : s.link.counters.Wf → l.counters.Wf)
    (hp : ∀ t, l.inProgress = some t → ∃ u, s.link.inProgress = some u ∧ t.attempts = u.attempts)
    (he : s.link.Empty → l.Empty) : Moves s (s.withLink l) := by
  refine (Move.link l (fun h => ⟨hc h.1, fun t ht => ?_⟩) (.inr he)).moves
  obtain ⟨u, hu, ha⟩ := hp t ht
  exact ha ▸ h.2 u hu

theorem countUp_le (n : Nat) : countUp n ≤ 65535 := Nat.min_le_left _ _

theorem withCounters_moves {s : State} {c : LinkCounters} (h : s.link.counters.Wf → c.Wf) :
    Moves s (s.withCounters c) :=
  withLink_moves h (fun t ht => ⟨t, ht, rfl⟩) id

theorem accept_moves (s : State) : Moves s (accept s) := withCounters_moves fun h => ⟨countUp_le _, h.2⟩
theorem countCrcError_moves (s : State) : Moves s (countCrcError s) :=
  withCounters_moves fun ⟨h1, _, h⟩ => ⟨h1, countUp_le _, h⟩
theorem countFormatError_moves (s : State) : Moves s (countFormatError s) :=
  withCounters_moves fun ⟨h1, h2, _, h⟩ => ⟨h1, h2, countUp_le _, h⟩
theorem countLateIntent_moves (s : State) : Moves s (countLateIntent s) :=
  withCounters_moves fun ⟨h1, h2, h3, h4, h5, _, h⟩ => ⟨h1, h2, h3, h4, h5, countUp_le _, h⟩
theorem countMissedRound_moves (s : State) : Moves s (countMissedRound s) :=
  withCounters_moves fun ⟨h1, h2, h3, h4, h5, h6, _⟩ => ⟨h1, h2, h3, h4, h5, h6, countUp_le _⟩

/-- A change of phase keeps the attempts of the frame in progress. -/
theorem rephase_inProgress {l : Link} {f : TxPhase → TxPhase} {t : Sending} (h : (l.rephase f).inProgress = some t) :
    ∃ u, l.inProgress = some u ∧ t.attempts = u.attempts := by
  obtain ⟨u, hu, rfl⟩ := Option.map_eq_some_iff.mp h
  exact ⟨u, hu, rfl⟩

theorem rephase_empty {l : Link} (f : TxPhase → TxPhase) (h : l.Empty) : (l.rephase f).Empty :=
  ⟨by simp [Link.rephase, h.1], h.2⟩

theorem frameEnd_moves (s : State) : Moves s (frameEnd s) :=
  withLink_moves id (fun _ ht => rephase_inProgress (l := s.link.lineEnds) ht)
    fun h => rephase_empty (l := s.link.lineEnds) _ h

theorem frameMissed_moves (s : State) : Moves s (frameMissed s) :=
  withLink_moves id (fun t ht => ⟨t, ht, rfl⟩) id

theorem otherStarts_moves (s : State) : Moves s (otherStarts s) :=
  withLink_moves id (fun t ht => ⟨t, ht, rfl⟩) id

/-! ### The round record -/

/-- Outside the queue only the outstanding frame goes. -/
theorem clearOutstanding_moves (s : State) : Moves s (s.withRound { s.round with outstanding := none }) := by
  refine (Move.round _ (by rfl) fun h => ?_).moves
  obtain ⟨hw, hn, hj, -, -, hl⟩ := h
  exact ⟨hw, hn, hj, fun _ => rfl, nofun, fun hp => ⟨(hl hp).1, rfl, (hl hp).2.2⟩⟩

theorem recallIntent_moves (s : State) : Moves s (recallIntent s) := by
  unfold recallIntent
  refine Moves.then (Move.link _ (fun h => takeNext_wf ?_) (.inr fun h => ?_)).moves (clearOutstanding_moves _)
  · split
    · split
      · exact ⟨h.1, nofun⟩
      · exact h
    · exact h
  · have hp := h.1
    have he : ({ s.link with waitIntent := none } : Link).Empty := ⟨hp, h.2.1, rfl, h.2.2.2⟩
    simp only [hp]
    rw [takeNext_empty (by simpa only [hp] using he)]
    simpa only [hp] using he

theorem enterIsolated_moves (s : State) : Moves s (enterIsolated s) :=
  have hm : Moves s (s.withMode { s.mode with isolated := true }) := withMode_moves (by rfl)
  have hl : Moves (s.withMode { s.mode with isolated := true })
      ((s.withMode { s.mode with isolated := true }).withLink { s.link with latch := true, heard := false }) :=
    withLink_moves id (fun t ht => ⟨t, ht, rfl⟩) id
  ((hm.then hl).then (raise_moves _ _)).then (recallIntent_moves _)

theorem leaveIsolated_moves (s : State) : Moves s (leaveIsolated s) :=
  have hm : Moves s (s.withMode { s.mode with isolated := false }) := withMode_moves (by rfl)
  hm.then (withLink_moves id (fun t ht => ⟨t, ht, rfl⟩) id)

theorem State.maySend_of_mayHandIntent {s : State} (h : s.mayHandIntent = true) : s.MaySend := by
  refine State.maySend_of_beaconing ?_
  simp only [State.mayHandIntent, Bool.and_eq_true] at h
  simp [State.beaconing, h.1.1.1.1]

/-- The frame that is handed carries the first entries of the queue, one for each load point, and no own entry
stands in the list (R121). -/
theorem handIntent_moves {s : State} (h : s.mayHandIntent = true) : Moves s (handIntent s) := by
  have hw : s.Working := by
    simp only [State.mayHandIntent, Bool.and_eq_true, State.isActive, beq_iff_eq] at h
    simp [State.Working, h.1.1.1.1]
  refine (withLink_takeNext_moves (State.maySend_of_mayHandIntent h) (by rfl) (by rfl)).then
    (Move.round _ (by rfl) fun hr => ?_).moves
  obtain ⟨hwf, hn, hj, -, -, hl⟩ := hr
  refine ⟨hwf, hn, hj, fun hjoin => ?_, ?_, fun hp => ?_⟩
  · simp only [State.mayHandIntent, Bool.and_eq_true, Bool.or_eq_true, beq_iff_eq, Bool.not_eq_true'] at h
    change s.round.join = true at hjoin
    rcases h.1.2 with hc | ho
    · have := (hwf.2.2.2.2.2.2.2.1 (by simp [hc])).2
      simp_all
    · simp_all
  · rintro qs ⟨⟩
    exact hwf.2.1.sublist ((List.take_sublist 4 _).map _)
  · rcases (hl hp).2.2 with hno | hpas
    · exact absurd hno hw.1
    · exact absurd hpas hw.2

/-! ### The consequences of an event -/

theorem recalled_state {s : State} {i : LpId} (h : s.recalled i = true) :
    s.chans[i].state ≠ .unused ∧ s.chans[i].state ≠ .lockout ∧ s.chans[i].state ≠ .manual := by
  unfold State.recalled at h
  grind

theorem releaseTo_state {a b : LpState} (h : releaseTo a = some b) : a ≠ .unused ∧ a ≠ .lockout ∧ a ≠ .manual := by
  cases a <;> simp_all [releaseTo]

/-- Each consequence is made of elementary operations. -/
theorem fire_moves {s : State} {d : Due} (h : d.Guard s) : Moves s (fire s d) := by
  cases d <;> unfold fire <;> dsimp only
  case takeBack i => exact takeBack_moves (recalled_state h.2)
  case confirm i => exact enter_moves _ (by simp [h.2.1, -Fin.getElem_fin])
  case release i st => exact enter_moves _ (releaseTo_state h.2)
  case call i c =>
    obtain ⟨l, -, -, hst, -⟩ := h
    exact enterFor_moves _ _ (by simp [hst, -Fin.getElem_fin])
  case callOut i =>
    obtain ⟨l, -, -, hst | hst⟩ := h <;> exact enter_moves _ (by simp [hst, -Fin.getElem_fin])
  case goIdle i st => exact enter_moves _ (by simp [h.2.2.1, -Fin.getElem_fin])
  case runOnStop i => exact enter_moves _ (by simp [h.2.2.1, -Fin.getElem_fin])
  case shortForce v on => exact setForce_moves v on s
  case surplusReport i =>
    have hst := h.2.2.2
    have hu : s.Touchable i := State.touchable_of_state (by simp [hst, -Fin.getElem_fin])
    refine (setProv_moves s i _).then (setChan_moves hu (by rfl) (by rfl) (fun hw => ?_) (by rfl))
    obtain ⟨h1, h2, h3, -, h5⟩ := hw
    exact ⟨h1, h2, h3, fun hne => absurd hst hne, h5⟩
  case surplusEnds i =>
    have hp := setProv_moves s i { s.provs[i] with reported := false }
    refine Moves.ite (fun hst => ?_) fun _ => hp
    have hu : s.Touchable i := State.touchable_of_state (by simp [hst, -Fin.getElem_fin])
    refine (hp.then (setChan_moves hu (by rfl) (by rfl) (fun hw => ?_) (by rfl))).then (Move.withdraw i).moves
    obtain ⟨h1, h2, h3, -, h5⟩ := hw
    exact ⟨h1, h2, h3, fun hne => absurd hst hne, h5⟩
  case callOff i => exact enter_moves _ (by simp [h.2.1, -Fin.getElem_fin])
  case bid i c => exact enterFor_moves _ _ (by simp [h.2.2.1, -Fin.getElem_fin])
  case leadBegins i =>
    have hu : s.Touchable i := State.touchable_of_state (by simp [h.2.1, -Fin.getElem_fin])
    refine setChan_moves hu (by rfl) (by rfl) (fun hw => ?_) (by rfl)
    obtain ⟨h1, h2, h3, h4, -, h6⟩ := hw
    exact ⟨h1, h2, h3, h4, fun hne => absurd h.2.1 hne, h6⟩
  case leadLost i =>
    have hu : s.Touchable i := State.touchable_of_state (by simp [h.2.1, -Fin.getElem_fin])
    refine (setChan_moves hu (by rfl) (by rfl) (fun hw => ?_) (by rfl)).then (Move.withdraw i).moves
    obtain ⟨h1, h2, h3, h4, -, h6⟩ := hw
    exact ⟨h1, h2, h3, h4, fun hne => absurd h.2.1 hne, h6⟩
  case postStop i => exact (Move.post i _ _ (.inl h.1) (.inl h.2.2.1)).moves
  case postStart i => exact (Move.post i _ _ (.inl h.1) (.inr h.2.2.1)).moves
  case enters m => exact enterMode_moves m s
  case stagger q => exact grantEntry_moves q s
  case handIntent => exact handIntent_moves h
  case shortBegins | shortCeases => exact setSvc_moves s _ _
  all_goals exact setProv_moves s _ _

theorem settle_moves (s : State) : Moves s (settle s) :=
  settle_induct (P := Moves s) (fun _ _ hm hg => hm.then (fire_moves hg)) s Moves.none

theorem then_settle {s t : State} (h : Moves s t) : Moves s (settle t) := h.then (settle_moves t)

end Sys2Proof.Machine
end

section
/-! PROOFS, the layer of the steps: every command but those of the loader, the uptime and three requests of the service
tool is a run of elementary operations; what those others do besides. -/

namespace Sys2Proof.Machine

/-! ### Activity counters -/

theorem actFirst_moves (i : LpId) (high : Bool) (s : State) : Moves s (actFirst i high s) := by
  have hl : Moves s (setAct i high s) := setLines_moves s i _
  unfold actFirst
  refine Moves.ite (fun _ => hl.then (setUnit_moves ?_ ?_ ?_)) fun _ => hl
  all_goals
    unfold ActUnit.firstReading
    split
  exacts [rfl, rfl, rfl, rfl, id, id]

theorem reportActivity_moves (i : LpId) (s : State) : Moves s (reportActivity i s) := by
  have hu : Moves s (s.setUnit i { s.units[i] with
      idle := if s.units[i].armed then s.reload i else s.units[i].idle
      expiryReported := !s.units[i].armed && s.units[i].expiryReported }) :=
    setUnit_moves (by rfl) (by rfl) id
  rw [reportActivity_eq]
  dsimp only
  exact Moves.ite (fun h => then_settle (hu.then (enter_moves (s := s.setUnit i _) _
    (by simp [State.setUnit, h.1, -Fin.getElem_fin])))) fun _ => hu

theorem reportStandstill_moves (i : LpId) (s : State) : Moves s (reportStandstill i s) :=
  Moves.ite (fun h => then_settle (enter_moves _ (by simp [h, -Fin.getElem_fin]))) fun _ => Moves.none

theorem reportExpiry_moves (i : LpId) (s : State) : Moves s (reportExpiry i s) := by
  have hu : Moves s (s.setUnit i { s.units[i] with idle := 0, expiryReported := true }) :=
    setUnit_moves (by rfl) (by rfl) id
  unfold reportExpiry
  exact Moves.ite (fun h => then_settle (hu.then (enter_moves _ (by simp [h, -Fin.getElem_fin])))) fun _ => hu

/-- An edge acts through its rule, if it is one. -/
theorem actEdge_moves {k : State → State} (hk : ∀ t, Moves t (k t)) (modes : List ActMode) (i : LpId) (high : Bool)
    (s : State) : Moves s (actEdge modes k i high s) := by
  have hl : Moves s (setAct i high s) := setLines_moves s i _
  unfold actEdge
  refine Moves.ite (fun _ => ?_) fun _ => Moves.none
  split
  · exact actFirst_moves i high s
  · exact Moves.ite (fun _ => Moves.none) fun _ => Moves.ite (fun _ => hl) fun _ => hl.then (hk _)

theorem countStroke_moves (i : LpId) (high : Bool) (s : State) : Moves s (countStroke i high s) := by
  have hu : Moves s (s.setUnit i { s.units[i] with count := s.units[i].count + 1 }) :=
    setUnit_moves (by rfl) (by rfl) id
  unfold countStroke
  exact Moves.ite (fun _ => hu.then (reportActivity_moves _ _)) fun _ => Moves.none

theorem changeLoad_moves (i : LpId) (high : Bool) (s : State) : Moves s (changeLoad i high s) := by
  have hu (l : Option Bool) (n : BitVec 16) : Moves s (s.setUnit i { s.units[i] with loaded := l, count := n }) :=
    setUnit_moves (by rfl) (by rfl) id
  unfold changeLoad
  exact Moves.ite (fun _ => (hu _ _).then (reportActivity_moves _ _)) fun _ => hu _ _

theorem stepPosition_moves (i : LpId) (high : Bool) (s : State) : Moves s (stepPosition i high s) := by
  unfold stepPosition
  dsimp only
  split
  · exact Moves.ite (fun _ => setUnit_moves (by rfl) (by rfl) id) fun _ => Moves.none
  · exact Moves.none

theorem sampleMoving_moves (i : LpId) (d : BitVec 16) (s : State) : Moves s (sampleMoving i d s) := by
  have hu : Moves s (s.setUnit i (if changesDirection s.units[i] d then
      { s.units[i].sampled d with dirFlag := true, dirCount := satSucc 255 (s.units[i].sampled d).dirCount }
      else s.units[i].sampled d)) := by
    refine setUnit_moves ?_ ?_ ?_ <;> split
    exacts [rfl, rfl, rfl, rfl, fun _ => Nat.min_le_left _ _, id]
  unfold sampleMoving
  exact Moves.ite (fun _ => hu.then (reportActivity_moves _ _)) fun _ => hu

theorem sampleCoasting_moves (i : LpId) (d : BitVec 16) (s : State) : Moves s (sampleCoasting i d s) := by
  have hu (n : Nat) : Moves s (s.setUnit i { s.units[i].sampled d with runCount := n }) :=
    setUnit_moves (by rfl) (by rfl) id
  unfold sampleCoasting
  exact Moves.ite (fun _ => (hu _).then (reportStandstill_moves _ _)) fun _ => hu _

/-! ### Channels -/

/-- A running timer of a channel shows that it is not as an unused one is held. -/
theorem State.touchable_of_watch {s : State} {i : LpId} (h : s.chans[i].watch.isRunning = true) : s.Touchable i :=
  .inr fun h' => by rw [h'] at h; cases h

/-- In STARTING the two timers of a start may change. -/
theorem setStarting_moves {s : State} {i : LpId} (a b : Timer) (h : s.chans[i].state = .starting) :
    Moves s (s.setChan i { s.chans[i] with startT := a, settleT := b }) := by
  have hu : s.Touchable i := State.touchable_of_state (by simp [h, -Fin.getElem_fin])
  refine setChan_moves hu (by rfl) (by rfl) (fun hw => ?_) (by rfl)
  obtain ⟨h1, h2, -, h4⟩ := hw
  exact ⟨h1, h2, fun hne => absurd h hne, h4⟩

theorem runRises_moves (i : LpId) (s : State) : Moves s (runRises i s) := by
  have hl := setLines_moves s i { s.lines[i] with run := some true }
  unfold runRises
  exact then_settle (Moves.ite (fun h => hl.then (setStarting_moves _ _ h)) fun _ => hl)

theorem runDrops_moves (i : LpId) (s : State) : Moves s (runDrops i s) := by
  have hl := setLines_moves s i { s.lines[i] with run := some false }
  unfold runDrops
  exact then_settle (Moves.ite (fun h => hl.then (setStarting_moves _ _ h)) fun _ => hl)

theorem setGrant_moves (i : LpId) (present : Bool) (s : State) : Moves s (setGrant i present s) :=
  then_settle (setLines_moves s i _)

theorem handAsserts_moves (i : LpId) (s : State) : Moves s (handAsserts i s) := by
  have hl := setLines_moves s i { s.lines[i] with hand := some true }
  unfold handAsserts
  exact Moves.ite (fun h => then_settle (hl.then (Move.enter none i .manual (.inl h) fun _ => .inr rfl).moves))
    fun _ => hl

theorem afterHand_of_hard {c : Chan} (h : c.lockout = .hard) : afterHand c = .lockout := by simp [afterHand, h]

theorem handReleases_moves (i : LpId) (s : State) : Moves s (handReleases i s) := by
  have hl := setLines_moves s i { s.lines[i] with hand := some false }
  unfold handReleases
  refine then_settle (Moves.ite (fun h => hl.then (Move.enter none i _ ?_ fun hh => .inl (afterHand_of_hard hh.1)).moves)
    fun _ => hl)
  exact State.touchable_of_state (by simp [h, -Fin.getElem_fin])

theorem setStoprb_moves (i : LpId) (a : Bool) (s : State) : Moves s (setStoprb i a s) := by
  have hl := setLines_moves s i { s.lines[i] with stoprb := some a }
  unfold setStoprb
  exact Moves.ite (fun h => hl.then (setChan_moves (.inl h) (by rfl) (by rfl) id (by rfl))) fun _ => hl

theorem lockSoft_moves {s : State} {i : LpId} (code : FaultCode)
    (h : s.chans[i].state ≠ .unused ∧ s.chans[i].state ≠ .lockout ∧ s.chans[i].state ≠ .manual) :
    Moves s (lockSoft i code s) := by
  have hr : Moves s (reportLp i code true s) := (Move.report i code true).moves
  have hu : (reportLp i code true s).Touchable i := State.touchable_of_state (s := reportLp i code true s) h.1
  have hc : Move (reportLp i code true s) ((reportLp i code true s).setChan i
      { (reportLp i code true s).chans[i] with lockout := .soft }) :=
    Move.chan i _ hu rfl rfl id fun hh => absurd hh (Chan.not_hardHeld h.2.1 h.2.2)
  refine (hr.then hc.moves).then (enter_moves _ ?_)
  rw [setChan_chans_self]
  exact h

theorem refuseAttempt_moves {s : State} {i : LpId} (h : s.chans[i].state = .stopRequested) :
    Moves s (refuseAttempt i s) := by
  have hu : s.Touchable i := State.touchable_of_state (by simp [h, -Fin.getElem_fin])
  have hc : Moves s (s.setChan i { s.chans[i] with retry := s.chans[i].retry - 1 }) :=
    setChan_moves hu (by rfl) (by rfl) id (by rfl)
  have hst : (s.setChan i { s.chans[i] with retry := s.chans[i].retry - 1 }).chans[i].state = .stopRequested := by
    rw [setChan_chans_self]; exact h
  unfold refuseAttempt
  dsimp only
  generalize s.setChan i _ = t at hc hst ⊢
  have hu' : t.Touchable i := State.touchable_of_state (by simp [hst, -Fin.getElem_fin])
  refine Moves.ite (fun _ => hc.then (enter_moves _ (by simp [hst, -Fin.getElem_fin]))) fun _ =>
    Moves.ite (fun _ => hc.then (lockSoft_moves _ (by simp [hst, -Fin.getElem_fin]))) fun _ => ?_
  have ha : Moves t (t.setChan i { t.chans[i] with autoOff := true }) :=
    setChan_moves hu' (by rfl) (by rfl) id (by rfl)
  refine ((hc.then ha).then (enter_moves _ ?_)).then (raise_moves _ _)
  rw [setChan_chans_self]
  simp [hst, -Fin.getElem_fin]

theorem readBackWatchExpires_moves {s : State} {i : LpId} (h : s.chans[i].watch.isRunning = true) :
    Moves s (let t := (reportLp i .outputStuck true s).raise .outputStuck
      let t := t.setChan i { t.chans[i] with lockout := .hard, watch := .off }
      if t.chans[i].state = .manual then t else settle (enter i .lockout t)) := by
  have hr : Moves s ((reportLp i .outputStuck true s).raise .outputStuck) :=
    (Move.report i _ true).moves.then (raise_moves _ _)
  have hu : ((reportLp i .outputStuck true s).raise .outputStuck).Touchable i := State.touchable_of_watch (by exact h)
  dsimp only
  generalize (reportLp i .outputStuck true s).raise .outputStuck = t at hr hu ⊢
  have hc : Moves t (t.setChan i { t.chans[i] with lockout := .hard, watch := .off }) :=
    .single (.chan i _ hu (by rfl) (by rfl) id fun _ => by rfl)
  refine Moves.ite (fun _ => hr.then hc) fun _ => then_settle ((hr.then hc).then
    (Move.enter none i .lockout ?_ fun _ => .inl rfl).moves)
  refine hu.imp id fun _ hp => ?_
  rw [setChan_chans_self] at hp
  cases congrArg Chan.lockout hp

/-! ### Lists of load points that a directive names -/

theorem clearSoft_moves {s : State} {i : LpId} (hu : s.inUse i = true) : Moves s (clearSoft s i) := by
  unfold clearSoft
  refine Moves.ite (fun hl => ?_) fun _ => Moves.none
  have hc : Moves s (s.setChan i { s.chans[i] with lockout := .none }) :=
    .single (.chan i _ (.inl hu) (by rfl) (by rfl) id fun hh => by cases hl.symm.trans hh.1)
  refine Moves.ite (fun _ => hc.then (Move.enter (s := s.setChan i _) none i .running (.inl hu) fun hh => ?_).moves)
    fun _ => hc
  rw [setChan_chans_self] at hh
  cases hh.1

theorem excludeLp_moves {s : State} {i : LpId} (hu : s.inUse i = true) (hm : s.chans[i].state ≠ .manual) :
    Moves s (excludeLp s i) := by
  unfold excludeLp
  refine Moves.ite (fun _ => Moves.none) fun hn => (Move.enter none i .excluded (.inl hu) fun hh => ?_).moves
  exact absurd hh (Chan.not_hardHeld (fun h => hn (.inl h)) hm)

theorem includeLp_moves (s : State) (i : LpId) : Moves s (includeLp s i) :=
  Moves.ite (fun h => enter_moves _ (by simp [h, -Fin.getElem_fin])) fun _ => Moves.none

/-- Walking named load points takes operations when each does, in states that keep the configuration and what the
walk relies on. -/
theorem foldl_named_moves {g : State → LpId → State} {Q : State → LpId → Prop}
    (h : ∀ s i, s.inUse i = true → Q s i → Moves s (g s i)) (hq : ∀ s i j, Q s j → Q (g s i) j) :
    ∀ (l : List LpId) (s : State), (∀ i ∈ l, s.inUse i = true ∧ Q s i) → Moves s (l.foldl g s)
  | [], _, _ => Moves.none
  | x :: xs, s, hl => by
    have hx := hl x List.mem_cons_self
    have hm := h s x hx.1 hx.2
    refine hm.then (foldl_named_moves h hq xs _ fun i hi => ?_)
    obtain ⟨hu, hqi⟩ := hl i (List.mem_cons_of_mem _ hi)
    exact ⟨(State.inUse_congr hm.config i).trans hu, hq _ _ _ hqi⟩

theorem mem_named {s : State} {m : Byte} {i : LpId} : i ∈ s.named m ↔ s.inUse i = true ∧ maskBit m i = true := by
  simp [State.named, mem_lpIds]

theorem causing_isEmpty {s : State} {m : Byte} {p : Chan → Bool} :
    (s.causing m p).isEmpty = true ↔ ∀ i, s.inUse i = true → maskBit m i = true → p s.chans[i] = false := by
  simp [State.causing, mem_named, List.isEmpty_iff, List.filter_eq_nil_iff]

theorem clearSofts_moves (m : Byte) (s : State) : Moves s ((s.named m).foldl clearSoft s) :=
  foldl_named_moves (Q := fun _ _ => True) (fun _ _ hu _ => clearSoft_moves hu) (fun _ _ _ => id) _ _
    fun _ hi => ⟨(mem_named.mp hi).1, trivial⟩

theorem excludeLp_state_ne_manual {s : State} (i j : LpId) (h : s.chans[j].state ≠ .manual) :
    (excludeLp s i).chans[j].state ≠ .manual := by
  unfold excludeLp
  split
  · exact h
  · by_cases hj : j = i
    · subst hj
      rw [enter, enterFor_chans_self]
      decide
    · rw [enter, enterFor_chans, if_neg hj]
      exact h

theorem excludeLps_moves {m : Byte} {s : State} (h : (s.causing m fun c => c.state == .manual).isEmpty = true) :
    Moves s ((s.named m).foldl excludeLp s) := by
  refine foldl_named_moves (Q := fun s i => s.chans[i].state ≠ .manual) (fun _ _ => excludeLp_moves)
    (fun _ => excludeLp_state_ne_manual) _ _ fun i hi => ?_
  have hi := mem_named.mp hi
  exact ⟨hi.1, by simpa using causing_isEmpty.mp h i hi.1 hi.2⟩

theorem includeLps_moves (m : Byte) (s : State) : Moves s ((s.named m).foldl includeLp s) :=
  foldl_moves includeLp_moves _ _

end Sys2Proof.Machine
end

section
/-! PROOFS, the layer of the steps, continued: frames of peers, the round, the link's events, the service tool, and the
commands one by one. -/

namespace Sys2Proof.Machine

/-! ### The peer table -/

theorem storeEntry_moves {s : State} {before after : PeerEntry}
    (h : s.peers.Wf → (findEntry after.address s.peers.entries).isSome = true ∨ s.peers.entries.length < tableCapacity) :
    Moves s (storeEntry before after s) := by
  have hm : Moves s (s.withEntries (placeEntry (after.refreshed s.statusSecs) s.peers.entries)) := by
    refine (Move.peers _ fun hw => ⟨?_, placeEntry_pairwise _ hw.2⟩).moves
    rcases h hw with hf | hl
    · exact (placeEntry_length_of_mem (e := after.refreshed s.statusSecs) hw.2 hf).trans_le hw.1
    · exact (placeEntry_length_le _ _).trans hl
  unfold storeEntry
  exact Moves.ite (fun _ => hm.then (raise_moves _ _)) fun _ => hm

theorem rejectFrame_moves (s : State) : Moves s (rejectFrame s) := by
  have hm : Moves s (s.withPeers { s.peers with overflow := startAt s.isolationUs }) := .single (.peers _ id)
  unfold rejectFrame
  exact Moves.ite (fun _ => hm) fun _ => hm.then (raise_moves _ _)

theorem takeFrame_moves {f : PeerEntry → PeerEntry} (hf : ∀ e, (f e).address = e.address) (src : Byte) (s : State) :
    Moves s (takeFrame src f s) := by
  unfold takeFrame
  split
  · rename_i e he
    exact storeEntry_moves fun _ => .inl (by rw [hf, findEntry_address he, he]; rfl)
  · exact Moves.ite (fun hl => storeEntry_moves fun _ => .inr hl) fun _ => rejectFrame_moves s

/-- A change of the entries that keeps their addresses. -/
theorem mapEntry_moves (s : State) (a : Byte) {f : PeerEntry → PeerEntry} (hf : ∀ e, (f e).address = e.address) :
    Moves s (s.withEntries (mapEntry a f s.peers.entries)) := by
  refine (Move.peers _ fun hw => ⟨?_, ?_⟩).moves
  · simpa [mapEntry] using hw.1
  · simpa only [mapEntry_addresses a f hf] using hw.2

theorem dropEntry_moves (s : State) (a : Byte) : Moves s (s.withEntries (dropEntry a s.peers.entries)) :=
  (Move.peers _ fun hw => ⟨(List.length_filter_le _ _).trans hw.1, hw.2.sublist (dropEntry_addresses a _)⟩).moves

theorem answerRequest_moves (src : Byte) (msg : BeaconMsg) (s : State) : Moves s (answerRequest src msg s) := by
  unfold answerRequest
  refine Moves.ite (fun _ => ?_) fun _ => Moves.none
  split
  · exact Moves.ite (fun _ => (mapEntry_moves s src (by intro; rfl)).then (announce_moves _)) fun _ => Moves.none
  · have hm : Moves s (s.withPeers { s.peers with sharedHold := startAt s.isolationUs }) := .single (.peers _ id)
    exact Moves.ite (fun _ => hm.then (announce_moves _)) fun _ => Moves.none

theorem heardPeer_moves (s : State) : Moves s (heardPeer s) :=
  withLink_moves id (fun t ht => ⟨t, ht, rfl⟩) id

/-- The station leaves the link: every frame is dropped, and the plant mode is decided where it listened in. -/
theorem enterConflict_moves {s : State} (h : s.MaySend) : Moves s (enterConflict s) := by
  have hmode : Moves s (s.withMode { s.mode with
      station := some .addressConflict, isolated := false, beaconT := .off, listenIn := .off }) := .single (.mode _ (.inr ⟨h, nofun, nofun⟩))
  have hlink (t : State) (ht : t.link = s.link) :
      Moves t (t.withLink { s.link.dropAll with silence := .off, heard := false }) :=
    .single (.link _ (fun hw => ⟨ht ▸ hw.1, nofun⟩) (.inr fun _ => ⟨rfl, rfl, rfl, rfl, rfl, rfl⟩))
  have hm := ((hmode.then (raise_moves _ .addressConflict)).then (hlink _ rfl)).then (clearOutstanding_moves _)
  unfold enterConflict
  exact Moves.ite (fun _ => hm.then (decideMode_moves _)) fun _ => hm

theorem ownAddressFrame_moves (s : State) : Moves s (ownAddressFrame s) :=
  Moves.ite (fun h => then_settle (enterConflict_moves (State.maySend_of_beaconing h))) fun _ => Moves.none

theorem State.maySend_of_receiving {s : State} (h : s.receiving = true) : s.MaySend := by
  simp only [State.receiving, State.loaderIdle, Bool.and_eq_true, beq_iff_eq] at h
  exact .inr h.1.1.2

/-- A frame of a station, in whatever form it comes: where a peer's frame is taken, the sender's address is another than
the station's own, which none holds while it has none. -/
theorem fromStation_moves {k : State → State} (src : Byte) (formOk : Bool) (s : State)
    (hk : ∀ u, u.ownAddress ≠ src → Moves u (k u)) : Moves s (fromStation src formOk k s) := by
  unfold fromStation
  refine Moves.ite (fun _ => ?_) fun _ => frameMissed_moves s
  refine (frameEnd_moves s).then (Moves.ite (fun hf => ?_) fun _ => countFormatError_moves _)
  have ha := accept_moves (frameEnd s)
  refine Moves.ite (fun _ => ha.then (ownAddressFrame_moves _)) fun hne => ?_
  have hm := ha.then (heardPeer_moves _)
  refine then_settle (hm.then (hk _ fun hsrc => ?_))
  simp only [Bool.and_eq_true] at hf
  rw [State.ownAddress, hm.station] at hsrc
  cases haddr : s.station.address with
  | none =>
    have h0 : src = 0 := by rw [← hsrc]; exact congrArg (Option.getD · 0) haddr
    simp [h0, isStation] at hf
  | some a =>
    refine hne (haddr.trans (congrArg some ?_))
    rw [← hsrc]
    exact (congrArg (Option.getD · 0) haddr).symm

/-! ### The round -/

/-- What a round record's entries have to satisfy for a station of the given address: the part of `State.RoundPairs`
that speaks of the record alone. -/
abbrev Round.Pairs (own : Byte) (r : Round) : Prop :=
  r.Wf ∧ (r.list.map fun e => (e.station, e.entry.lp)).Nodup ∧
  (r.join = false → ∀ e ∈ r.list, e.station ≠ own) ∧ (r.join = true → r.outstanding = none) ∧
  (∀ qs, r.outstanding = some qs → (qs.map fun q => q.entry.lp).Nodup)

theorem roundPairs_iff {s : State} : s.RoundPairs ↔ s.round.Pairs s.ownAddress ∧
    (s.loader.phase ≠ .done → s.round.list = [] ∧ s.round.outstanding = none ∧
      (s.mode.station = none ∨ s.mode.station = some .passive)) :=
  ⟨fun ⟨a, b, c, d, e, f⟩ => ⟨⟨a, b, c, d, e⟩, f⟩, fun ⟨⟨a, b, c, d, e⟩, f⟩ => ⟨a, b, c, d, e, f⟩⟩

/-- The record changes outside its queue while the station is at work. -/
theorem withRound_moves_of_working {s : State} {r : Round} (hw : s.Working) (hq : r.queue = s.round.queue)
    (h : s.round.Pairs s.ownAddress → r.Pairs s.ownAddress) : Moves s (s.withRound r) := by
  refine (Move.round r hq fun hr => ?_).moves
  obtain ⟨hp, hl⟩ := roundPairs_iff.mp hr
  exact roundPairs_iff.mpr ⟨h hp, fun hph => (hl hph).2.2.elim (absurd · hw.1) (absurd · hw.2)⟩

/-- An entry that none of the list stands for is appended in an OPEN round. -/
theorem Round.Pairs.append {own : Byte} {r : Round} {e : ListEntry} (h : r.Pairs own) (hroom : r.list.length < listCapacity)
    (hnew : ∀ x ∈ r.list, (x.station, x.entry.lp) ≠ (e.station, e.entry.lp)) (hopen : r.phase = .opened)
    (hown : r.join = false → e.station ≠ own) : ({ r with list := r.list ++ [e] } : Round).Pairs own := by
  obtain ⟨⟨-, h2, h3, h4, h5, h6, h7, -, -⟩, hn, hj, ho, hqs⟩ := h
  refine ⟨⟨by simpa using hroom, h2, h3, h4, h5, h6, h7, fun hne => absurd hopen hne,
    fun hc => by cases hopen.symm.trans hc⟩, ?_, fun hjf x hx => ?_, ho, hqs⟩
  · rw [List.map_append, List.nodup_append']
    refine ⟨hn, List.nodup_singleton _, ?_⟩
    simpa [List.disjoint_left] using hnew
  · rcases List.mem_append.mp hx with hx | hx
    · exact hj hjf x hx
    · exact List.mem_singleton.mp hx ▸ hown hjf

/-- One entry more is counted refused in an OPEN round. -/
theorem Round.Pairs.refuse {own : Byte} {r : Round} (h : r.Pairs own) (hopen : r.phase = .opened) :
    ({ r with refused := satSucc 255 r.refused } : Round).Pairs own := by
  obtain ⟨⟨h1, h2, h3, h4, h5, h6, -, h8, -⟩, hrest⟩ := h
  exact ⟨⟨h1, h2, h3, h4, h5, h6, Nat.min_le_left _ _, h8, fun hc => by cases hopen.symm.trans hc⟩, hrest⟩

theorem openIfClosed_eq {r : Round} (w : Nat) (h : r.phase ≠ .guarding) : r.openIfClosed w =
    { r with phase := .opened, window := if r.phase = .closed then startAt (millis w) else r.window } := by
  obtain ⟨phase⟩ := r
  cases phase
  · rfl
  · rfl
  · exact absurd rfl h

/-- A round that a frame opens, or finds OPEN, with a heard count within its limit. -/
theorem Round.Pairs.open {own : Byte} {r : Round} (h : r.Pairs own) (w : Nat) (hg : r.phase ≠ .guarding) (d : Bool)
    {n : Nat} (hn : n ≤ 255) :
    ({ r.openIfClosed w with heard := n, doubtful := d } : Round).Pairs own := by
  obtain ⟨⟨h1, h2, h3, h4, h5, -, h7, -, -⟩, hrest⟩ := h
  rw [openIfClosed_eq w hg]
  exact ⟨⟨h1, h2, h3, h4, h5, hn, h7, fun hne => absurd rfl hne, fun hc => by cases hc⟩, hrest⟩

/-- Taking the entries of a peer's frame one after another. -/
theorem takeEntries_pairs {own src : Byte} (hsrc : own ≠ src) (mismatched : Bool) : ∀ (raws : List RawEntry) (r : Round),
    r.phase = .opened → r.Pairs own → (raws.foldl (Round.takeEntry src mismatched) r).Pairs own
  | [], _, _, h => h
  | raw :: raws, r, ho, h => by
    rw [List.foldl_cons]
    rcases takeEntry_cases src mismatched r raw with he | ⟨e, -, -, hnew, hroom, he⟩ <;> rw [he]
    · exact takeEntries_pairs hsrc mismatched raws _ ho (h.refuse ho)
    · refine takeEntries_pairs hsrc mismatched raws _ ho (h.append hroom (fun x hx heq => ?_) ho fun _ => hsrc.symm)
      simp only [Prod.mk.injEq] at heq
      exact holds_eq_false.mp hnew x hx heq.1 heq.2

theorem takeEntries_queue (src : Byte) (mismatched : Bool) : ∀ (raws : List RawEntry) (r : Round),
    (raws.foldl (Round.takeEntry src mismatched) r).queue = r.queue
  | [], _ => rfl
  | raw :: raws, r => by
    rw [List.foldl_cons, takeEntries_queue src mismatched raws]
    rcases takeEntry_cases src mismatched r raw with he | ⟨_, -, -, -, -, he⟩ <;> rw [he]

/-- A station that listens or decides is at work. -/
theorem State.working_of_watched {s : State} (h : (s.listening || s.deciding) = true) : s.Working := by
  simp only [State.listening, State.deciding, State.isActive, State.inConflict, Bool.or_eq_true, beq_iff_eq] at h
  rcases h with h | h | h <;> simp [State.Working, h]

theorem takeIntent_moves {src : Byte} (count : Byte) (raws : List RawEntry) {s : State} (h : s.ownAddress ≠ src) :
    Moves s (takeIntent src count raws s) := by
  unfold takeIntent
  refine Moves.ite (fun hw => Moves.ite (fun _ => countLateIntent_moves s) fun hg => ?_) fun _ => Moves.none
  unfold Round.takeFrame
  refine withRound_moves_of_working (State.working_of_watched hw) ?_ fun hp => ?_
  · rw [takeEntries_queue, openIfClosed_eq _ hg]
  · refine takeEntries_pairs h _ raws _ (by rw [openIfClosed_eq _ hg]) ?_
    exact hp.open s.planW hg _ (Nat.min_le_left _ _)

/-- Entering the entries of the own frame one after another. -/
theorem enterOwns_pairs {own : Byte} : ∀ (qs : List QueueEntry) (r : Round), r.phase = .opened → r.join = true →
    r.Pairs own → (qs.map fun q => q.entry.lp).Nodup →
    (∀ q ∈ qs, ∀ x ∈ r.list, (x.station, x.entry.lp) ≠ (own, q.entry.lp)) →
    (qs.foldl (fun r q => r.enterOwn { station := own, entry := q.entry, own := some q.serial }) r).Pairs own
  | [], _, _, _, h, _, _ => h
  | q :: qs, r, ho, hj, h, hn, hnew => by
    rw [List.foldl_cons]
    rw [List.map_cons, List.nodup_cons] at hn
    rcases enterOwn_cases r { station := own, entry := q.entry, own := some q.serial } with ⟨hroom, he⟩ | ⟨-, he⟩ <;>
      rw [he]
    · refine enterOwns_pairs qs _ ho hj (h.append hroom (hnew q List.mem_cons_self) ho (by simp [hj])) hn.2
        fun p hp x hx => ?_
      rcases List.mem_append.mp hx with hx | hx
      · exact hnew p (List.mem_cons_of_mem _ hp) x hx
      · rw [List.mem_singleton.mp hx]
        exact fun heq => hn.1 (List.mem_map.mpr ⟨p, hp, (congrArg Prod.snd heq).symm⟩)
    · exact enterOwns_pairs qs _ ho hj (h.refuse ho) hn.2 fun p hp => hnew p (List.mem_cons_of_mem _ hp)

theorem enterOwns_queue (f : QueueEntry → ListEntry) : ∀ (qs : List QueueEntry) (r : Round),
    (qs.foldl (fun r q => r.enterOwn (f q)) r).queue = r.queue
  | [], _ => rfl
  | q :: qs, r => by
    rw [List.foldl_cons, enterOwns_queue f qs]
    rcases enterOwn_cases r (f q) with ⟨-, he⟩ | ⟨-, he⟩ <;> rw [he]

/-- The own frame's entries enter a round that holds none of the station's, since its join mark is clear. -/
theorem ownIntentTaken_moves (s : State) : Moves s (ownIntentTaken s) := by
  unfold ownIntentTaken
  split
  · exact Moves.none
  · rename_i qs hqs
    refine Moves.ite (fun _ => (clearOutstanding_moves s).then (countMissedRound_moves _)) fun hg => ?_
    refine (Move.round _ ?_ fun hr => ?_).moves
    · rw [enterOwns_queue, openIfClosed_eq _ hg]
    obtain ⟨hp, hl⟩ := roundPairs_iff.mp hr
    obtain ⟨hwf, hn, hj, ho, hd⟩ := hp
    have hjoin : s.round.join = false := by
      cases hjt : s.round.join
      · rfl
      · cases hqs.symm.trans (ho hjt)
    refine roundPairs_iff.mpr ⟨enterOwns_pairs qs _ (by rw [openIfClosed_eq _ hg]) rfl ?_ (hd qs hqs) ?_, fun hph => ?_⟩
    · have hc : ({ s.round with outstanding := none } : Round).Pairs s.ownAddress :=
        ⟨hwf, hn, hj, fun _ => rfl, nofun⟩
      have := hc.open s.planW hg s.round.doubtful (n := min 255 (s.round.heard + qs.length)) (Nat.min_le_left _ _)
      rw [openIfClosed_eq _ hg] at this ⊢
      obtain ⟨⟨h1, h2, h3, h4, h5, h6, h7, -, -⟩, hn', -, -, -⟩ := this
      exact ⟨⟨h1, h2, h3, h4, h5, h6, h7, fun hne => absurd rfl hne, fun hc => by cases hc⟩, hn', nofun, fun _ => rfl,
        nofun⟩
    · rw [openIfClosed_eq _ hg]
      exact fun q _ x hx heq => hj hjoin x hx (congrArg Prod.fst heq)
    · cases hqs.symm.trans (hl hph).2.1

theorem applyOutcome_moves (s : State) (x : ListEntry × EntryOutcome) : Moves s (applyOutcome s x) := by
  unfold applyOutcome
  split
  · exact grantEntry_moves _ _
  · exact Moves.none

/-- At the close the list is emptied and the join mark cleared; then the grants reach the channels. -/
theorem closeRound_moves (s : State) : Moves s (closeRound s) := by
  refine Moves.then (Move.round _ ?_ fun hr => ?_).moves (foldl_moves applyOutcome_moves _ _)
  · rfl
  · obtain ⟨⟨⟨-, h2, h3, h4, h5, h6, h7, -, -⟩, -, -, -, hd⟩, hl⟩ := roundPairs_iff.mp hr
    refine roundPairs_iff.mpr ⟨⟨⟨Nat.zero_le _, h2, h3, h4, h5, h6, h7, fun _ => ⟨rfl, rfl⟩, fun hc => by cases hc⟩,
      List.nodup_nil, fun _ => nofun, nofun, hd⟩, fun hph => ⟨rfl, (hl hph).2⟩⟩

/-- At the end of GUARD the counts and the doubtful mark are clear. -/
theorem guardExpires_moves {s : State} (h : s.round.phase = .guarding) : Moves s (s.withRound { s.round with
    phase := .closed, guardT := .off, heard := 0, refused := 0, doubtful := false }) := by
  refine .single (.round _ (by rfl) fun hr => ?_)
  obtain ⟨⟨⟨-, h2, h3, h4, h5, -, -, h8, -⟩, -, -, ho, hd⟩, hl⟩ := roundPairs_iff.mp hr
  obtain ⟨hlist, hjoin⟩ := h8 (by simp [h])
  refine roundPairs_iff.mpr ⟨⟨⟨?_, h2, h3, h4, h5, Nat.zero_le _, Nat.zero_le _, fun _ => ⟨hlist, hjoin⟩,
    fun _ => ⟨rfl, rfl, rfl⟩⟩, ?_, ?_, ho, hd⟩, hl⟩
  all_goals simp [hlist]

/-! ### The link's events -/

theorem ownStarts_moves (s : State) : Moves s (ownStarts s) := by
  unfold ownStarts
  split
  · exact Moves.ite (fun _ => withLink_moves id
      (fun _ ht => rephase_inProgress (l := { s.link with lineIdle := false }) ht)
      fun h => rephase_empty (l := { s.link with lineIdle := false }) _ h) fun _ => Moves.none
  · exact Moves.none

theorem reportAbandoned_moves (o : Origin) (s : State) : Moves s (reportAbandoned o s) := by
  cases o
  · exact beaconOutcome_moves _ s
  · exact Moves.none
  · exact clearOutstanding_moves s
  · exact Moves.none

theorem reportCompleted_moves (o : Origin) (s : State) : Moves s (reportCompleted o s) := by
  cases o
  · exact beaconOutcome_moves _ s
  · exact Moves.none
  · exact ownIntentTaken_moves s
  · exact Moves.none

theorem takeNext_moves (s : State) : Moves s (s.withLink s.link.takeNext) :=
  .single (.link _ takeNext_wf (.inr fun h => (takeNext_empty h).symm ▸ h))

/-- A link that holds a frame in progress gives it up. -/
theorem dropProgress_moves {s : State} {l : Link} (h : s.link.inProgress ≠ none)
    (hc : s.link.counters.Wf → l.counters.Wf) (hp : l.inProgress = none) : Moves s (s.withLink l) :=
  .single (.link _ (fun hw => ⟨hc hw.1, fun t ht => by cases hp.symm.trans ht⟩) (.inr fun he => absurd he.1 h))

theorem abandon_moves {t : Sending} {s : State} (h : s.link.inProgress ≠ none) : Moves s (abandon t s) := by
  have hx (l : Link) (hc : s.link.counters.Wf → l.counters.Wf) (hp : l.inProgress = none) :
      Moves s (reportAbandoned t.out.origin (s.withLink l)) :=
    (dropProgress_moves h hc hp).then (reportAbandoned_moves _ _)
  have hc (hw : s.link.counters.Wf) :
      ({ s.link.counters with abandoned := countUp s.link.counters.abandoned } : LinkCounters).Wf := by
    obtain ⟨h1, h2, h3, h4, -, h6⟩ := hw
    exact ⟨h1, h2, h3, h4, countUp_le _, h6⟩
  unfold abandon
  refine then_settle (Moves.then (Moves.ite (fun _ => (hx _ ?_ ?_).then (enterIsolated_moves _)) fun _ => hx _ ?_ ?_)
    (takeNext_moves _))
  exacts [hc, rfl, hc, rfl]

theorem lost_moves (s : State) (loss : Loss) : Moves s (s.withLink (s.link.lost loss)) :=
  withLink_moves (fun ⟨h1, h2, h3, _, h⟩ => ⟨h1, h2, h3, countUp_le _, h⟩) (fun t ht => ⟨t, ht, rfl⟩) id

theorem lostContention_moves (loss : Loss) (draw : BitVec 5) (s : State) :
    ∃ t, exec (.lostContention loss draw) s = .next t ∧ Moves s t := by
  refine ⟨_, rfl, ?_⟩
  split
  · rename_i x hx
    refine Moves.ite (fun _ => ?_) fun _ => Moves.none
    refine Moves.ite (fun _ => (lost_moves s loss).then (abandon_moves (by simp [hx]))) fun hn => ?_
    refine .single (.link _ (fun hw => ⟨?_, ?_⟩) (.inr fun he => by cases hx.symm.trans he.1))
    · obtain ⟨⟨h1, h2, h3, -, h⟩, -⟩ := hw
      exact ⟨h1, h2, h3, countUp_le _, h⟩
    · rintro y ⟨⟩
      exact Nat.le_of_lt_succ (Nat.lt_of_not_le hn)
  · exact Moves.none

theorem backoffExpiry_moves (s : State) : ∃ t, exec .backoffExpiry s = .next t ∧ Moves s t := by
  refine ⟨_, rfl, ?_⟩
  split
  · exact withLink_moves id (fun _ ht => rephase_inProgress (l := { s.link with lineIdle := false }) ht)
      fun h => rephase_empty (l := { s.link with lineIdle := false }) _ h
  · exact Moves.none

theorem frameCompleted_moves (s : State) : ∃ t, exec .frameCompleted s = .next t ∧ Moves s t := by
  refine ⟨_, rfl, ?_⟩
  split
  · rename_i x hx
    refine Moves.ite (fun _ => ?_) fun _ => Moves.none
    have hd : Moves s (s.withLink { s.link with inProgress := none, abandonRun := 0, lineIdle := false }) :=
      dropProgress_moves (by simp [hx]) id rfl
    refine then_settle (Moves.then (Moves.then ?_ (reportCompleted_moves _ _)) (takeNext_moves _))
    exact Moves.ite (fun _ => hd.then (leaveIsolated_moves _)) fun _ => hd
  · exact Moves.none

theorem lineIdle_moves (s : State) : ∃ t, exec .lineIdle s = .next t ∧ Moves s t := by
  refine ⟨_, rfl, withLink_moves (fun h => ?_) (fun t ht => ?_) fun h => ?_⟩
  · dsimp only
    split <;> exact h
  · dsimp only at ht
    split at ht
    · exact rephase_inProgress (l := { s.link with lineIdle := _, collecting := false, awaitIdle := false }) ht
    · exact ⟨t, ht, rfl⟩
  · dsimp only
    split
    · rename_i hp
      cases h.1.symm.trans hp
    · exact h

theorem receptionEndedEarly_moves (s : State) : ∃ t, exec .receptionEndedEarly s = .next t ∧ Moves s t := by
  refine ⟨_, rfl, Moves.ite (fun _ => Moves.then ?_ (countFormatError_moves _)) fun _ => frameMissed_moves s⟩
  exact withLink_moves id (fun _ ht => rephase_inProgress (l := { s.link.lineEnds with awaitIdle := true }) ht)
    fun h => rephase_empty (l := { s.link.lineEnds with awaitIdle := true }) _ h

end Sys2Proof.Machine
end

section
/-! PROOFS, the layer of the steps, concluded: the modes, the service tool, the loader, and what each command is made
of. -/

namespace Sys2Proof.Machine

/-! ### Modes -/

/-- The timers of LISTEN_IN start and its first beacon is handed. -/
theorem firstBeacon_moves {s : State} (h : s.MaySend) : Moves s (handBeacon true (s.withMode { s.mode with
    listenIn := startAt s.listenInUs, beaconT := startAt (seconds s.statusSecs) })) := by
  have hm : Moves s (s.withMode { s.mode with
    listenIn := startAt s.listenInUs, beaconT := startAt (seconds s.statusSecs) }) := withMode_moves (by rfl)
  exact hm.then (handBeacon_moves (hm.maySend h) _)

theorem beginListening_moves {s : State} (h : s.MaySend) : Moves s (beginListening s) := by
  have hm : Moves s (settle (s.withMode { s.mode with station := some .listenIn })) :=
    then_settle (.single (.mode _ (.inr ⟨h, nofun, nofun⟩)))
  exact hm.then (firstBeacon_moves (hm.maySend h))

theorem setNight_moves (a : Bool) (s : State) : Moves s (setNight a s) := then_settle (withMode_moves (by rfl))

theorem State.maySend_of_listening {s : State} (h : s.listening = true) : s.MaySend :=
  State.maySend_of_beaconing (by simp [State.beaconing, h])

theorem endListening_moves {s : State} (h : s.listening = true) : Moves s (endListening s) := by
  have hm : Moves s (s.withMode { s.mode with station := some .active, listenIn := .off }) :=
    .single (.mode _ (.inr ⟨State.maySend_of_listening h, nofun, nofun⟩))
  exact then_settle (hm.then (decideMode_moves _))

theorem nextBeacon_moves {s : State} (h : s.MaySend) : Moves s (nextBeacon s) := by
  have hm : Moves s (s.withMode { s.mode with beaconT := startAt (seconds s.statusSecs) }) := withMode_moves (by rfl)
  exact hm.then (handBeacon_moves (hm.maySend h) _)

theorem beaconTimerExpires_moves {s : State} (h : s.MaySend) :
    Moves s (nextBeacon (if s.listening ∧ s.mode.listenIn = .running 0 then endListening s else s)) := by
  have hm : Moves s (if s.listening ∧ s.mode.listenIn = .running 0 then endListening s else s) :=
    Moves.ite (fun hl => endListening_moves hl.1) fun _ => Moves.none
  exact hm.then (nextBeacon_moves (hm.maySend h))

theorem silenceExpires_moves (s : State) :
    Moves s (let t := s.withLink { s.link with silence := .expired }
      if t.mode.isolated then t else settle (enterIsolated t)) := by
  have hm : Moves s (s.withLink { s.link with silence := .expired }) :=
    withLink_moves id (fun t ht => ⟨t, ht, rfl⟩) id
  exact Moves.ite (fun _ => hm) fun _ => then_settle (hm.then (enterIsolated_moves _))

/-! ### The service tool -/

theorem toolFrame_moves {k : State → State} (s : State) (hk : ∀ u, u.MaySend → Moves u (k u)) :
    Moves s (toolFrame k s) := by
  unfold toolFrame
  refine Moves.ite (fun hr => ?_) fun _ => frameMissed_moves s
  have hm := (frameEnd_moves s).then (accept_moves _)
  exact Moves.ite (fun _ => hm.then (hk _ (hm.maySend (State.maySend_of_receiving hr)))) fun _ => hm

theorem readClears_moves (t : Table) (a n : Nat) (s : State) : Moves s (readClears t a n s) := by
  unfold readClears
  split
  · refine Moves.ite (fun _ => withLink_moves (fun _ => ?_) (fun t ht => ⟨t, ht, rfl⟩) id) fun _ => Moves.none
    exact ⟨Nat.zero_le _, Nat.zero_le _, Nat.zero_le _, Nat.zero_le _, Nat.zero_le _, Nat.zero_le _, Nat.zero_le _⟩
  · refine .single (.units _ fun i => ?_)
    simp only [Fin.getElem_fin, Vector.getElem_ofFn]
    split <;> exact ⟨rfl, rfl, id⟩
  · exact Moves.none

theorem inquire_moves (code seq start count : Byte) {s : State} (h : s.MaySend) :
    Moves s (inquire code seq start count s) := by
  unfold inquire
  split
  · unfold answerInquiry
    refine Moves.ite (fun _ => handReply_moves h _ _) fun _ => ?_
    have hm := readClears_moves ‹Table› start.toNat (heldRecords ‹Table› start count s).length s
    exact hm.then (handReply_moves (hm.maySend h) _ _)
  · exact handReply_moves h _ _

/-- A directive is refused in PASSIVE, and otherwise does what its own rule says. -/
theorem directive_moves (code seq : Byte) {k : State → State} (s : State) (hk : ∀ u, u.MaySend → Moves u (k u)) :
    Moves s (directive code seq k s) :=
  toolFrame_moves s fun u hu => Moves.ite (fun _ => handReply_moves hu _ _) fun _ => hk u hu

theorem thenReply {s t : State} (h : Moves s t) (hs : s.MaySend) (q : Byte) (p : List Byte) :
    Moves s (handReply q p t) := h.then (handReply_moves (h.maySend hs) q p)

theorem forget_moves (a : Byte) (s : State) : Moves s (forget a s) := by
  have hm := dropEntry_moves s a
  unfold forget
  exact then_settle (Moves.ite (fun _ => hm.then (withLink_moves id (fun t ht => ⟨t, ht, rfl⟩) id)) fun _ => hm)

/-! ### Commands that are a run of elementary operations -/

/-- The commands of the loader and power-on, the uptime, the two directives that clear what stands in the fault unit, and
RESTART do more than elementary operations. -/
def isPlain : Instr → Bool
  | .uptimeTick | .clearFault _ _ _ | .clearAlerts _ _ | .restart _ => false
  | c => !isLoaderCommand c

theorem exec_plain (c : Instr) (s : State) (hc : isPlain c = true) : ∃ t, exec c s = .next t ∧ Moves s t := by
  cases c
  case powerOn | loadAttemptFailed | headerRead | bodyRead | uptimeTick | clearFault | clearAlerts | restart => cases hc
  case actFirstLevel i high => exact ⟨_, rfl, Moves.ite (fun _ => actFirst_moves i high s) fun _ => Moves.none⟩
  case strokeEdge i high => exact ⟨_, rfl, actEdge_moves (countStroke_moves i high) _ i high s⟩
  case loadLevelChange i high => exact ⟨_, rfl, actEdge_moves (changeLoad_moves i high) _ i high s⟩
  case quadratureEdge i high => exact ⟨_, rfl, actEdge_moves (stepPosition_moves i high) _ i high s⟩
  case bothPhasesChange i a b =>
    exact ⟨_, rfl, Moves.ite (fun _ => (setLines_moves s i _).then (setLines_moves _ _ _)) fun _ => Moves.none⟩
  case rotationSample i =>
    exact ⟨_, rfl, Moves.ite (fun _ => Moves.ite (fun _ => sampleCoasting_moves i _ s) fun _ => sampleMoving_moves i _ s)
      fun _ => Moves.none⟩
  case idleTimerDecrease i =>
    have hu : Moves s (s.setUnit i { s.units[i] with idle := s.units[i].idle - 1 }) :=
      setUnit_moves (by rfl) (by rfl) id
    exact ⟨_, rfl, Moves.ite (fun _ => Moves.ite (fun _ => reportExpiry_moves i s) fun _ => hu) fun _ => Moves.none⟩
  case idleExpiry i => exact ⟨_, rfl, Moves.ite (fun _ => reportExpiry_moves i s) fun _ => Moves.none⟩
  case lineFirstLevel line i present =>
    refine ⟨_, rfl, Moves.ite (fun _ => ?_) fun _ => Moves.none⟩
    cases line
    · exact Moves.ite (fun _ => Moves.none) fun _ => Moves.ite (fun _ => runRises_moves i s) fun _ => setLines_moves s i _
    · exact Moves.ite (fun _ => Moves.none) fun _ =>
        Moves.ite (fun _ => setGrant_moves i _ s) fun _ => setLines_moves s i _
    · exact Moves.ite (fun _ => Moves.none) fun _ =>
        Moves.ite (fun _ => handAsserts_moves i s) fun _ => setLines_moves s i _
    · exact Moves.ite (fun _ => Moves.none) fun _ => setStoprb_moves i present s
  case runRise i => exact ⟨_, rfl, Moves.ite (fun _ => runRises_moves i s) fun _ => Moves.none⟩
  case runDrop i => exact ⟨_, rfl, Moves.ite (fun _ => runDrops_moves i s) fun _ => Moves.none⟩
  case grantRise i => exact ⟨_, rfl, Moves.ite (fun _ => setGrant_moves i _ s) fun _ => Moves.none⟩
  case grantDrop i => exact ⟨_, rfl, Moves.ite (fun _ => setGrant_moves i _ s) fun _ => Moves.none⟩
  case handAsserted i => exact ⟨_, rfl, Moves.ite (fun _ => handAsserts_moves i s) fun _ => Moves.none⟩
  case handReleased i => exact ⟨_, rfl, Moves.ite (fun _ => handReleases_moves i s) fun _ => Moves.none⟩
  case stoprbEdge i a => exact ⟨_, rfl, Moves.ite (fun _ => setStoprb_moves i a s) fun _ => Moves.none⟩
  case readBackWatchExpiry i =>
    exact ⟨_, rfl, Moves.ite (fun h => readBackWatchExpires_moves h) fun _ => Moves.none⟩
  case stopTimerExpiry i =>
    exact ⟨_, rfl, Moves.ite (fun h => then_settle (Moves.ite (fun _ => refuseAttempt_moves h.1)
      fun _ => lockSoft_moves _ (by simp [h.1, -Fin.getElem_fin]))) fun _ => Moves.none⟩
  case coastTimerExpiry i =>
    refine ⟨_, rfl, Moves.ite (fun h => ?_) fun _ => Moves.none⟩
    have hu : (reportLp i .coastOverrun false s).Touchable i :=
      State.touchable_of_state (by simp [h.1, -Fin.getElem_fin])
    refine (Move.report i _ false).moves.then (setChan_moves hu (by rfl) (by rfl) (fun hw => ?_) (by rfl))
    obtain ⟨h1, -, h3⟩ := hw
    exact ⟨h1, fun hne => absurd h.1 hne, h3⟩
  case startTimerExpiry i =>
    exact ⟨_, rfl, Moves.ite (fun h => then_settle (lockSoft_moves _ (by simp [h.1, -Fin.getElem_fin])))
      fun _ => Moves.none⟩
  case settleTimerExpiry i =>
    exact ⟨_, rfl, Moves.ite (fun h => then_settle (enter_moves _ (by simp [h.1, -Fin.getElem_fin])))
      fun _ => Moves.none⟩
  case runOnExpiry i =>
    refine ⟨_, rfl, Moves.ite (fun h => ?_) fun _ => Moves.none⟩
    have hu : s.Touchable i := State.touchable_of_state (by simp [h.1, -Fin.getElem_fin])
    refine then_settle (setChan_moves hu (by rfl) (by rfl) (fun hw => ?_) (by rfl))
    obtain ⟨h1, h2, h3, -, h5⟩ := hw
    exact ⟨h1, h2, h3, fun hne => absurd h.1 hne, h5⟩
  case leadTimerExpiry i =>
    refine ⟨_, rfl, Moves.ite (fun h => ?_) fun _ => Moves.none⟩
    have hu : s.Touchable i := State.touchable_of_state (by simp [h.1, -Fin.getElem_fin])
    refine then_settle (setChan_moves hu (by rfl) (by rfl) (fun hw => ?_) (by rfl))
    obtain ⟨h1, h2, h3, h4, -, h6⟩ := hw
    exact ⟨h1, h2, h3, h4, fun hne => absurd h.1 hne, h6⟩
  case nightFirstLevel a => exact ⟨_, rfl, Moves.ite (fun _ => setNight_moves a s) fun _ => Moves.none⟩
  case nightEdge a => exact ⟨_, rfl, Moves.ite (fun _ => setNight_moves a s) fun _ => Moves.none⟩
  case listenInTimerExpiry =>
    refine ⟨_, rfl, Moves.ite (fun h => ?_) fun _ => Moves.none⟩
    simp only [Bool.and_eq_true] at h
    exact endListening_moves h.1
  case beaconTimerExpiry =>
    refine ⟨_, rfl, Moves.ite (fun h => ?_) fun _ => Moves.none⟩
    simp only [Bool.and_eq_true] at h
    exact beaconTimerExpires_moves (State.maySend_of_beaconing h.1)
  case surplusTimerExpiry i => exact ⟨_, rfl, Moves.ite (fun _ => then_settle (setProv_moves s i _)) fun _ => Moves.none⟩
  case shortfallTimerExpiry v =>
    exact ⟨_, rfl, Moves.ite (fun _ => then_settle (setSvc_moves s v _)) fun _ => Moves.none⟩
  case attemptStart sender =>
    cases sender
    · exact ⟨_, rfl, ownStarts_moves s⟩
    · exact ⟨_, rfl, otherStarts_moves s⟩
  case lostContention loss draw => exact lostContention_moves loss draw s
  case backoffExpiry => exact backoffExpiry_moves s
  case frameCompleted => exact frameCompleted_moves s
  case receptionEndedEarly => exact receptionEndedEarly_moves s
  case crcError =>
    exact ⟨_, rfl, Moves.ite (fun _ => (frameEnd_moves s).then (countCrcError_moves _)) fun _ => frameMissed_moves s⟩
  case formatError =>
    exact ⟨_, rfl, Moves.ite (fun _ => (frameEnd_moves s).then (countFormatError_moves _)) fun _ => frameMissed_moves s⟩
  case beacon src seq msg =>
    exact ⟨_, rfl, fromStation_moves src _ s fun u _ =>
      (takeFrame_moves (takeBeacon_address seq msg) src u).then (answerRequest_moves src msg _)⟩
  case plan src toggle page =>
    exact ⟨_, rfl, fromStation_moves src _ s fun u _ => takeFrame_moves (takePage_address _ toggle page) src u⟩
  case intent src heard entries =>
    refine ⟨_, rfl, fromStation_moves src _ s fun u hu => ?_⟩
    have hm := takeFrame_moves (f := id) (fun _ => rfl) src u
    exact hm.then (takeIntent_moves heard entries (by rwa [State.ownAddress, hm.station]))
  case reply src => exact ⟨_, rfl, fromStation_moves src _ s fun u _ => takeFrame_moves (fun _ => rfl) src u⟩
  case foreignToolFrame =>
    exact ⟨_, rfl, Moves.ite (fun _ => (frameEnd_moves s).then (accept_moves _)) fun _ => frameMissed_moves s⟩
  case addressConflict =>
    exact ⟨_, rfl, Moves.ite (fun _ => ((frameEnd_moves s).then (accept_moves _)).then (ownAddressFrame_moves _))
      fun _ => frameMissed_moves s⟩
  case silenceTimerExpiry => exact ⟨_, rfl, Moves.ite (fun _ => silenceExpires_moves s) fun _ => Moves.none⟩
  case ageTimerExpiry a =>
    exact ⟨_, rfl, Moves.ite (fun _ => then_settle (mapEntry_moves s a (by intro; rfl))) fun _ => Moves.none⟩
  case overflowTimerExpiry =>
    exact ⟨_, rfl, Moves.ite (fun _ => then_settle (.single (.peers _ (by exact id)))) fun _ => Moves.none⟩
  case answerHoldExpiry a => exact ⟨_, rfl, mapEntry_moves s a (by intro; rfl)⟩
  case sharedAnswerHoldExpiry => exact ⟨_, rfl, .single (.peers _ (by exact id))⟩
  case roundClose => exact ⟨_, rfl, Moves.ite (fun _ => then_settle (closeRound_moves s)) fun _ => Moves.none⟩
  case guardExpiry => exact ⟨_, rfl, Moves.ite (fun h => then_settle (guardExpires_moves h)) fun _ => Moves.none⟩
  case clearLockout seq lps =>
    exact ⟨_, rfl, directive_moves _ seq s fun u hu => Moves.ite
      (fun _ => thenReply (then_settle (clearSofts_moves lps u)) hu _ _) fun _ => handReply_moves hu _ _⟩
  case excludeLps seq lps =>
    exact ⟨_, rfl, directive_moves _ seq s fun u hu => Moves.ite
      (fun h => thenReply (then_settle (excludeLps_moves h)) hu _ _) fun _ => handReply_moves hu _ _⟩
  case includeLps seq lps =>
    exact ⟨_, rfl, directive_moves _ seq s fun u hu => thenReply (then_settle (includeLps_moves lps u)) hu _ _⟩
  case forgetPeer seq a =>
    exact ⟨_, rfl, directive_moves _ seq s fun u hu => Moves.ite (fun _ => handReply_moves hu _ _) fun _ =>
      Moves.ite (fun _ => handReply_moves hu _ _) fun _ => thenReply (forget_moves a u) hu _ _⟩
  case badDirective seq code x => exact ⟨_, rfl, directive_moves _ seq s fun u hu => handReply_moves hu _ _⟩
  case lineIdle => exact lineIdle_moves s
  all_goals exact ⟨_, rfl, toolFrame_moves s fun u hu => inquire_moves _ _ _ _ hu⟩

/-! ### The other commands -/

/-- A directive is a run of elementary operations up to where its own rule acts, if it does. -/
theorem directive_cases (code seq : Byte) (k : State → State) (s : State) :
    Moves s (directive code seq k s) ∨ ∃ u, Moves s u ∧ u.MaySend ∧ directive code seq k s = k u := by
  unfold directive toolFrame
  split
  · rename_i hr
    have hm := (frameEnd_moves s).then (accept_moves _)
    have hs := hm.maySend (State.maySend_of_receiving hr)
    dsimp only
    split
    · split
      · exact .inl (hm.then (handReply_moves hs _ _))
      · exact .inr ⟨_, hm, hs, rfl⟩
    · exact .inl hm
  · exact .inl (frameMissed_moves s)

/-- CLEAR_FAULT is a run of elementary operations, in which it may clear records. -/
theorem exec_clearFault (seq lps : Byte) (station : Bool) (s : State) : ∃ t, exec (.clearFault seq lps station) s = .next t ∧
    (Moves s t ∨ ∃ u, Moves s u ∧ Moves (clearFaults lps station u) t) := by
  refine ⟨_, rfl, (directive_cases _ _ _ s).imp id ?_⟩
  rintro ⟨u, hm, hs, he⟩
  have hs' : (clearFaults lps station u).MaySend := hs
  exact ⟨u, hm, he ▸ handReply_moves hs' _ _⟩

/-- CLEAR_ALERTS is a run of elementary operations, in which it may clear flags. -/
theorem exec_clearAlerts (seq : Byte) (classes : Half) (s : State) : ∃ t, exec (.clearAlerts seq classes) s = .next t ∧
    (Moves s t ∨ ∃ u, Moves s u ∧ Moves (clearFlags classes u) t) := by
  refine ⟨_, rfl, ?_⟩
  rcases directive_cases 6 seq (fun t => if 512 ≤ classes.toNat then refuseDirective 6 seq .badArgument 0 t
    else acceptDirective 6 seq (clearFlags classes t)) s with h | ⟨u, hm, hs, he⟩
  · exact .inl h
  · have hs' : (clearFlags classes u).MaySend := hs
    rw [he]
    split
    · exact .inl (hm.then (handReply_moves hs _ _))
    · exact .inr ⟨u, hm, handReply_moves hs' _ _⟩

/-- A restored channel enters the state it is restored to, and its watch begins afresh. -/
theorem restoreChan_moves (s : State) (i : LpId) : Moves s (restoreChan s i) := by
  unfold restoreChan
  refine Moves.ite (fun hu => ?_) fun _ => Moves.none
  have hm : Moves s (enter i (restoredState (s.handPresent i) s.chans[i]) s) := by
    refine .single (.enter none i _ (.inl hu) fun hh => ?_)
    obtain ⟨hl, hst | hst⟩ := hh
    · simp [restoredState, hst, -Fin.getElem_fin]
    · simp only [restoredState, hst, afterHand_of_hard hl]
      split
      · exact .inr rfl
      · exact .inl rfl
  exact hm.then (setChan_moves (.inl hu) (by rfl) (by rfl) id (by rfl))

/-- The channels are restored one after another, once the units are cleared. -/
theorem restoreAll_moves (s : State) : Moves (s.withUnits (Vector.ofFn fun i =>
    if s.inUse i then s.units[i].restarted else s.units[i])) (restoreAll s) := foldl_moves restoreChan_moves lpIds _

theorem restoreAll_phase (s : State) : (restoreAll s).loader.phase = s.loader.phase := (restoreAll_moves s).phase

/-- What a RESTART that is taken does: the re-read in PASSIVE, the warm restart elsewhere. -/
inductive Restarts (seq : Byte) (s : State) : State → Prop where
  | plain {t : State} (h : Moves s t) : Restarts seq s t
  | reread {u : State} (h : Moves s u) (passive : u.mode.station = some .passive) (done : u.loader.phase = .done) :
      Restarts seq s (rereadImage seq u)
  | warm {u t : State} (h : Moves s u) (done : u.loader.phase = .done) (working : u.Working)
      (h' : Moves (restoreAll (restartBlocks u)) t) : Restarts seq s t

theorem exec_restart (seq : Byte) (s : State) : ∃ t, exec (.restart seq) s = .next t ∧ Restarts seq s t := by
  refine ⟨_, rfl, ?_⟩
  split
  swap
  · exact .plain (frameMissed_moves s)
  rename_i hr
  have hm := (frameEnd_moves s).then (accept_moves _)
  simp only [State.receiving, State.loaded, State.loaderIdle, Bool.and_eq_true, beq_iff_eq] at hr
  have hdone : (accept (frameEnd s)).loader.phase = .done := hm.phase.trans hr.1.1.2
  have hsome : (accept (frameEnd s)).mode.station.isSome = true := hr.1.1.1
  dsimp only
  generalize accept (frameEnd s) = u at hm hdone hsome ⊢
  have hs : (restoreAll (restartBlocks u)).MaySend := .inr ((restoreAll_phase _).trans hdone)
  have hwarm : Moves (restoreAll (restartBlocks u)) (warmRestart u) :=
    (beginListening_moves hs).then (beaconOutcome_moves _ _)
  split
  · exact .plain hm
  · cases hst : u.mode.station with
    | none => simp [hst] at hsome
    | some st =>
      cases st
      case passive => exact .reread hm hst hdone
      case addressConflict => exact .warm hm hdone (by simp [State.Working, hst]) hwarm
      all_goals exact .warm hm hdone (by simp [State.Working, hst]) (thenReply hwarm hs _ _)

end Sys2Proof.Machine
end

section
/-! PROOFS, the layer of the steps: the loader, and the induction by which an invariant of the station is shown. -/

namespace Sys2Proof.Machine

/-! ### The loader -/

/-- The load record of an outcome (R14). -/
def Loader.ended (l : Loader) : LoadOutcome → Loader
  | .accepted _ _ marks => { l with
      phase := .done, status := some (if marks.isEmpty then .good else .goodClamped),
      clampCount := min 255 marks.length, firstClamped := marks.head? }
  | .rejected _ _ => { l with phase := .done, status := some .rejected, clampCount := 0, firstClamped := none }

/-- The state an accepted image leaves before its consequences: configuration, records, channels and units at their
power-on values, the balance cleared, and the station in LISTEN_IN. -/
def loadAccepted (station : StationFields) (config : Configuration) (marks : List ClampMark) (s : State) : State :=
  let s := ((s.withConfig (some config)).withStation station).withLoader
    (s.loader.ended (.accepted station config marks))
  let s := if marks.isEmpty then s else reportLoad .clamped s
  let s := (s.withChans (startChans s)).withUnits (startUnits s)
  let s := (s.withSvcs (Vector.replicate 12 SvcBalance.clear)).withProvs (Vector.replicate 8 ProvBalance.clear)
  s.withMode { s.mode with plant := .day, station := some .listenIn }

/-- The state a rejected image leaves, but for the reply that is owed. -/
def loadRejected (fault : FaultCode) (station : StationFields) (s : State) : State :=
  let s := ((s.withConfig none).withStation station).withLoader (s.loader.ended (.rejected fault station))
  let s := reportLoad fault s
  let s := (s.withChans (Vector.replicate 8 (Chan.powerOn .unused 0))).withUnits
    (Vector.replicate 8 ActUnit.cleared)
  s.withMode { s.mode with station := some .passive, plant := .day }

/-- What the end of a load leaves before the consequences. -/
def loadBase : LoadOutcome → State → State
  | .accepted station config marks => loadAccepted station config marks
  | .rejected fault station => loadRejected fault station

theorem answerRestart_moves {s : State} (h : s.MaySend) : Moves s (answerRestart s) := by
  unfold answerRestart
  split
  · exact (Move.answered.moves).then (handReply_moves (Move.answered.maySend h) _ _)
  · exact Moves.none

/-- LISTEN_IN as it begins once the consequences of the load are taken. -/
def listeningFrom (s : State) : State :=
  handBeacon true (s.withMode { s.mode with listenIn := startAt s.listenInUs, beaconT := startAt (seconds s.statusSecs) })

theorem endLoad_accepted (station : StationFields) (config : Configuration) (marks : List ClampMark) (s : State) :
    endLoad (.accepted station config marks) s =
      answerRestart (listeningFrom (settle (loadAccepted station config marks s))) := by
  unfold endLoad beginListening
  exact congrArg (fun u => answerRestart (listeningFrom (settle u))) rfl

theorem endLoad_rejected (fault : FaultCode) (station : StationFields) (s : State) :
    endLoad (.rejected fault station) s = answerRestart (loadRejected fault station s) := rfl

theorem loadBase_phase (o : LoadOutcome) (s : State) : (loadBase o s).loader.phase = .done := by
  cases o
  · unfold loadBase loadAccepted
    dsimp only
    split <;> rfl
  · rfl

theorem endLoad_moves (o : LoadOutcome) (s : State) : Moves (loadBase o s) (endLoad o s) := by
  have hd : (loadBase o s).MaySend := .inr (loadBase_phase o s)
  cases o with
  | accepted station config marks =>
    rw [endLoad_accepted]
    have hm : Moves (loadBase (.accepted station config marks) s)
        (listeningFrom (settle (loadAccepted station config marks s))) :=
      (settle_moves _).then (firstBeacon_moves ((settle_moves _).maySend hd))
    exact hm.then (answerRestart_moves (hm.maySend hd))
  | rejected fault station =>
    rw [endLoad_rejected]
    exact answerRestart_moves hd

/-- What a command of the loader, power-on apart, does. -/
inductive Loads (s : State) : State → Prop where
  | keeps : Loads s s
  | reads (phase : LoaderPhase) (failures : Nat) (busy : s.loader.phase ≠ .done) (busy' : phase ≠ .done) :
      Loads s (s.withLoader { s.loader with phase, failures })
  | ends (o : LoadOutcome) (busy : s.loader.phase ≠ .done) : Loads s (endLoad o s)

theorem attemptFails_loads {s : State} (h : s.loader.phase ≠ .done) : Loads s (attemptFails s) := by
  unfold attemptFails
  split
  · exact .ends _ h
  · exact .reads _ _ h nofun

theorem exec_loader (c : Instr) (s : State) (hc : isLoaderCommand c = true) (hp : c ≠ .powerOn) :
    ∃ t, exec c s = .next t ∧ Loads s t := by
  cases c <;> try cases hc
  case powerOn => exact absurd rfl hp
  case loadAttemptFailed =>
    refine ⟨_, rfl, ?_⟩
    split
    · exact .keeps
    · rename_i h
      exact attemptFails_loads (by simpa [State.loaderIdle] using h)
  case headerRead =>
    refine ⟨_, rfl, ?_⟩
    split
    · rename_i h
      split
      · exact .reads _ _ (by simp [h]) nofun
      · exact .ends _ (by simp [h])
    · exact .keeps
  case bodyRead =>
    refine ⟨_, rfl, ?_⟩
    split
    · rename_i h
      split
      · exact attemptFails_loads (by simp [h])
      · exact .ends _ (by simp [h])
    · exact .keeps

/-- Every command answers a next state. -/
theorem exec_next (c : Instr) (s : State) : ∃ t, exec c s = .next t := by cases c <;> exact ⟨_, rfl⟩

/-! ### One tick of time -/

theorem tick_chans (s : State) : s.tick.chans = Vector.ofFn fun i => s.chans[i].tick := by simp [State.tick]
theorem tick_units (s : State) : s.tick.units = s.units := by simp [State.tick]
theorem tick_lines (s : State) : s.tick.lines = s.lines := by simp [State.tick]
theorem tick_loader (s : State) : s.tick.loader = s.loader := by simp [State.tick]
theorem tick_config (s : State) : s.tick.config = s.config := by simp [State.tick]
theorem tick_station (s : State) : s.tick.station = s.station := by simp [State.tick]
theorem tick_faults (s : State) : s.tick.faults = s.faults := by simp [State.tick]
theorem tick_pending (s : State) : s.tick.pending = s.pending := by simp [State.tick]
theorem tick_link (s : State) : s.tick.link = { s.link with
    silence := s.link.silence.tick
    inProgress := s.link.inProgress.map fun t => { t with phase := t.phase.tick } } := by simp [State.tick]
theorem tick_peers (s : State) : s.tick.peers = { s.peers with
    entries := s.peers.entries.map PeerEntry.tick, overflow := s.peers.overflow.tick,
    sharedHold := s.peers.sharedHold.tick } := by simp [State.tick]
theorem tick_round (s : State) : s.tick.round = { s.round with
    window := s.round.window.tick, guardT := s.round.guardT.tick } := by simp [State.tick]
theorem tick_mode (s : State) : s.tick.mode = { s.mode with
    listenIn := s.mode.listenIn.tick, beaconT := s.mode.beaconT.tick } := by simp [State.tick]
theorem tick_svcs (s : State) : s.tick.svcs = Vector.ofFn fun v =>
    { s.svcs[v] with timer := s.svcs[v].timer.tickUp (seconds (s.svcBlock v).shortfallConfirm.toNat) } := by
  unfold State.tick; rfl
theorem tick_provs (s : State) : s.tick.provs = Vector.ofFn fun i =>
    { s.provs[i] with timer := s.provs[i].timer.tickUp (s.surplusHoldUs i) } := by
  unfold State.tick; rfl

/-! ### The induction -/

/-- What holds before a command, is kept by elementary operations, and by what the command does besides, holds after
it. -/
theorem exec_keeps {P : State → Prop} {c : Instr} {s : State} (move : ∀ s t, Move s t → P s → P t)
    (powerOn : c = .powerOn → P (State.reset.withPending s.pending))
    (uptime : c = .uptimeTick → P (s.withFaults { s.faults with uptime := s.faults.uptime + 1 }))
    (clearFaults : ∀ q m b, c = .clearFault q m b → ∀ u, P u → P (clearFaults m b u))
    (clearFlags : ∀ q m, c = .clearAlerts q m → ∀ u, P u → P (clearFlags m u))
    (reads : isLoaderCommand c = true → s.loader.phase ≠ .done → ∀ phase failures, phase ≠ .done →
      P (s.withLoader { s.loader with phase, failures }))
    (ends : isLoaderCommand c = true → s.loader.phase ≠ .done → ∀ o, P (loadBase o s))
    (reread : ∀ q u, u.mode.station = some .passive → P u → P (rereadImage q u))
    (warm : ∀ u, u.loader.phase = .done → u.Working → P u → P (restoreAll (restartBlocks u)))
    (hs : P s) {t : State} (h : exec c s = .next t) : P t := by
  have moves {a b : State} (m : Moves a b) (ha : P a) : P b := m.keeps move ha
  by_cases hplain : isPlain c = true
  · obtain ⟨_, he, hm⟩ := exec_plain c s hplain
    cases he.symm.trans h
    exact moves hm hs
  by_cases hload : isLoaderCommand c = true
  · by_cases hpo : c = .powerOn
    · have hp := powerOn hpo
      subst hpo
      cases h
      exact hp
    · obtain ⟨_, he, hl⟩ := exec_loader c s hload hpo
      cases he.symm.trans h
      cases hl with
      | keeps => exact hs
      | reads phase failures busy busy' => exact reads hload busy phase failures busy'
      | ends o busy => exact moves (endLoad_moves o s) (ends hload busy o)
  cases c <;> simp only [isPlain, isLoaderCommand, Bool.not_true, Bool.not_false, not_true_eq_false] at hplain hload
  case uptimeTick =>
    cases h
    exact uptime rfl
  case clearFault seq m b =>
    obtain ⟨_, he, hm | ⟨v, hm, hm'⟩⟩ := exec_clearFault seq m b s <;> cases he.symm.trans h
    · exact moves hm hs
    · exact moves hm' (clearFaults _ _ _ rfl v (moves hm hs))
  case clearAlerts seq m =>
    obtain ⟨_, he, hm | ⟨v, hm, hm'⟩⟩ := exec_clearAlerts seq m s <;> cases he.symm.trans h
    · exact moves hm hs
    · exact moves hm' (clearFlags _ _ rfl v (moves hm hs))
  case restart seq =>
    obtain ⟨_, he, hr⟩ := exec_restart seq s
    cases he.symm.trans h
    cases hr with
    | plain hm => exact moves hm hs
    | reread hm passive done => exact reread seq _ passive (moves hm hs)
    | warm hm done working hm' => exact moves hm' (warm _ done working (moves hm hs))

/-- What is kept by elementary operations, by the further effects of the commands that are more, and by the passage of
time, every step keeps. -/
theorem step_keeps {P : State → Prop} (move : ∀ s t, Move s t → P s → P t)
    (pending : ∀ s l, P s → P (s.withPending l)) (tick : ∀ s, P s → P s.tick) (powerOn : P State.reset)
    (uptime : ∀ s n, P s → P (s.withFaults { s.faults with uptime := n }))
    (clearFaults : ∀ m b s, P s → P (clearFaults m b s)) (clearFlags : ∀ m s, P s → P (clearFlags m s))
    (reads : ∀ s phase failures, s.loader.phase ≠ .done → phase ≠ .done → P s →
      P (s.withLoader { s.loader with phase, failures }))
    (ends : ∀ o s, s.loader.phase ≠ .done → P s → P (loadBase o s))
    (reread : ∀ q s, s.mode.station = some .passive → P s → P (rereadImage q s))
    (warm : ∀ s, s.loader.phase = .done → s.Working → P s → P (restoreAll (restartBlocks s)))
    {s t : State} (hs : P s) (h : step s = .next t) : P t := by
  unfold step at h
  split at h
  · cases h
    exact tick s hs
  · rename_i c rest _
    have hp := pending s rest hs
    exact exec_keeps move (fun _ => pending _ _ powerOn) (fun _ => uptime _ _ hp) (fun _ m b _ => clearFaults m b)
      (fun _ m _ => clearFlags m) (fun _ hph _ _ hph' => reads _ _ _ hph hph' hp) (fun _ hph o => ends o _ hph hp)
      reread warm hp h

end Sys2Proof.Machine
end

section
/-! PROOFS of the invariants of chapters 5 and 7: the peer table and the round record. -/

namespace Sys2Proof.Machine

/-! ### The peer table (R92) -/

/-- Only an operation of the peer table changes it, and it keeps its order and size. -/
theorem Move.peersWf {s t : State} (h : Move s t) (hs : s.peers.Wf) : t.peers.Wf := by
  cases h
  case peers p wf => exact wf hs
  all_goals exact hs

theorem tick_peersWf {s : State} (hs : s.peers.Wf) : s.tick.peers.Wf := by
  rw [tick_peers]
  refine ⟨(List.length_map _).trans_le hs.1, ?_⟩
  have : (s.peers.entries.map PeerEntry.tick).map PeerEntry.address = s.peers.entries.map PeerEntry.address := by
    rw [List.map_map]; rfl
  exact this ▸ hs.2

theorem peersWf_reset : PeerTable.reset.Wf := ⟨Nat.zero_le _, List.Pairwise.nil⟩

theorem loadBase_peers (o : LoadOutcome) (s : State) : (loadBase o s).peers = s.peers := by
  cases o
  · unfold loadBase loadAccepted
    dsimp only
    split <;> rfl
  · rfl

/-- What holds after the blocks of a warm restart are cleared and every operation keeps, holds once the channels are
restored. -/
theorem restoreAll_keeps {P : State → Prop} (move : ∀ s t, Move s t → P s → P t) {s : State}
    (h : ∀ us, P (s.withUnits us)) : P (restoreAll s) :=
  (restoreAll_moves s).keeps move (h _)

/-- Settles O56: every operation on the list of entries keeps its order and its size. -/
theorem everyStepKeepsThePeerTable : Obligations.EveryStepKeepsThePeerTable := by
  intro s t hs h
  refine step_keeps (P := fun s => s.peers.Wf) (fun _ _ hm => hm.peersWf) (fun _ _ hp => hp) (fun _ => tick_peersWf)
    peersWf_reset (fun _ _ hp => hp) (fun _ _ _ hp => hp) (fun _ _ hp => hp) (fun _ _ _ _ _ hp => hp)
    (fun o s _ hp => ?_) (fun _ _ _ _ => peersWf_reset) (fun _ _ _ _ => ?_) hs h
  · rwa [loadBase_peers]
  · exact restoreAll_keeps (P := fun s => s.peers.Wf) (fun _ _ hm => hm.peersWf) fun _ => peersWf_reset

/-! ### The round record (R120, R123, R128) -/

/-- The pairs of a round record depend on the record, the own address and whether the station may be at work. -/
theorem roundPairs_congr {s t : State} (hr : t.round = s.round) (ha : t.station = s.station)
    (hp : t.loader.phase = s.loader.phase) (hm : t.mode.station = s.mode.station) (hs : s.RoundPairs) :
    t.RoundPairs := by
  have ho : t.ownAddress = s.ownAddress := congrArg (fun x : StationFields => x.address.getD 0) ha
  rw [roundPairs_iff] at hs ⊢
  rwa [hr, ho, hp, hm]

/-- The queue of the record, with the next serial. -/
abbrev QueueWf (q : List QueueEntry) (n : Nat) : Prop :=
  (q.map fun x => x.entry.lp).Nodup ∧
  q.Pairwise (fun a b => b.entry.level < a.entry.level ∨ a.entry.level = b.entry.level ∧ a.entry.lp < b.entry.lp) ∧
  (q.map QueueEntry.serial).Nodup ∧ ∀ x ∈ q, x.serial < n

theorem queueWf_of_roundPairs {s : State} (h : s.RoundPairs) : QueueWf s.round.queue s.round.nextSerial := by
  obtain ⟨⟨-, h2, h3, h4, h5, -⟩, -⟩ := h
  exact ⟨h2, h3, h4, h5⟩

/-- Another well-formed queue in the same record. -/
theorem roundPairs_withQueue {s : State} {q : List QueueEntry} {n : Nat} (hq : QueueWf q n) (hs : s.RoundPairs) :
    (s.withRound { s.round with queue := q, nextSerial := n }).RoundPairs := by
  obtain ⟨⟨h1, -, -, -, -, hrest⟩, hl⟩ := hs
  obtain ⟨q1, q2, q3, q4⟩ := hq
  exact ⟨⟨h1, q1, q2, q3, q4, hrest⟩, hl⟩

theorem queueWf_drop {q : List QueueEntry} {n : Nat} (i : LpId) (h : QueueWf q n) : QueueWf (dropQueued i q) n := by
  have hsub : (dropQueued i q).Sublist q := List.filter_sublist
  exact ⟨h.1.sublist (hsub.map _), h.2.1.sublist hsub, h.2.2.1.sublist (hsub.map _), fun x hx => h.2.2.2 x (hsub.subset hx)⟩

/-- Posting gives the new entry its place and the next serial. -/
theorem queueWf_post {q : List QueueEntry} {n : Nat} {e : Entry} (h : QueueWf q n) :
    QueueWf (insertQueued { serial := n, entry := e } (dropQueued e.lp q)) (n + 1) := by
  obtain ⟨h1, h2, h3, h4⟩ := queueWf_drop e.lp h
  have hperm := insertQueued_perm { serial := n, entry := e } (dropQueued e.lp q)
  refine ⟨insertQueued_dropQueued_nodup h.1, ?_, ?_, fun x hx => ?_⟩
  · have hp : (dropQueued e.lp q).Pairwise fun a b => queuedBefore a.entry b.entry = true :=
      h2.imp fun hab => queuedBefore_iff.mpr hab
    have := insertQueued_pairwise (q := { serial := n, entry := e }) (fun x hx => (mem_dropQueued.mp hx).2) hp
    exact this.imp fun hab => queuedBefore_iff.mp hab
  · rw [(hperm.map QueueEntry.serial).nodup_iff, List.map_cons, List.nodup_cons]
    refine ⟨fun hm => ?_, h3⟩
    obtain ⟨x, hx, hxn⟩ := List.mem_map.mp hm
    exact absurd hxn (Nat.ne_of_lt (h4 x hx))
  · rcases mem_insertQueued.mp hx with rfl | hx
    · exact Nat.lt_succ_self n
    · exact Nat.lt_succ_of_lt (h4 x hx)

theorem entryToWake_keeps (i : LpId) (q : QueueEntry) : (entryToWake i q).serial = q.serial ∧
    (entryToWake i q).entry.lp = q.entry.lp ∧ (entryToWake i q).entry.level = q.entry.level := by
  unfold entryToWake
  split <;> exact ⟨rfl, rfl, rfl⟩

theorem queueWf_toWake {q : List QueueEntry} {n : Nat} (i : LpId) (h : QueueWf q n) :
    QueueWf (q.map (entryToWake i)) n := by
  obtain ⟨h1, h2, h3, h4⟩ := h
  refine ⟨?_, ?_, ?_, fun x hx => ?_⟩
  · simpa [List.map_map, Function.comp_def, entryToWake_keeps] using h1
  · rw [List.pairwise_map]
    exact h2.imp fun {a b} hab => by
      rw [(entryToWake_keeps i a).2.1, (entryToWake_keeps i a).2.2, (entryToWake_keeps i b).2.1,
        (entryToWake_keeps i b).2.2]
      exact hab
  · simpa [List.map_map, Function.comp_def, entryToWake_keeps] using h3
  · obtain ⟨y, hy, rfl⟩ := List.mem_map.mp hx
    exact (entryToWake_keeps i y).1 ▸ h4 y hy

/-- Every elementary operation keeps the round record. -/
theorem Move.roundPairs {s t : State} (h : Move s t) (hs : s.RoundPairs) : t.RoundPairs := by
  have hq := queueWf_of_roundPairs hs
  cases h
  case enter c i st _ _ =>
    exact roundPairs_congr rfl rfl rfl rfl (roundPairs_withQueue (queueWf_drop i hq) hs)
  case withdraw i => exact roundPairs_congr rfl rfl rfl rfl (roundPairs_withQueue (queueWf_drop i hq) hs)
  case post i a c _ _ =>
    exact roundPairs_congr rfl rfl rfl rfl (roundPairs_withQueue (queueWf_post (e := s.ownEntry i a c) hq) hs)
  case toWake i => exact roundPairs_withQueue (queueWf_toWake i hq) hs
  case round r _ hr => exact hr hs
  case mode m hm =>
    obtain ⟨hp, hl⟩ := roundPairs_iff.mp hs
    refine roundPairs_iff.mpr ⟨hp, fun hph => ?_⟩
    rcases hm with hm | ⟨hsend, -⟩
    · have := hl hph
      rwa [← hm] at this
    · rcases hsend with hw | hd
      · exact ((hl hph).2.2.elim (absurd · hw.1) (absurd · hw.2))
      · exact absurd hd hph
  all_goals exact roundPairs_congr rfl rfl rfl rfl hs

/-- While the loader reads, the list is empty and no frame outstanding, so that the record serves any address. -/
theorem roundPairs_of_loading {s t : State} (hr : t.round = s.round) (hp : t.loader.phase = .done)
    (hph : s.loader.phase ≠ .done) (hs : s.RoundPairs) : t.RoundPairs := by
  obtain ⟨⟨hwf, hn, -, -, -⟩, hl⟩ := roundPairs_iff.mp hs
  obtain ⟨hlist, hout, -⟩ := hl hph
  refine roundPairs_iff.mpr ⟨?_, fun hne => absurd hp hne⟩
  rw [hr]
  exact ⟨hwf, hn, fun _ x hx => absurd hx (by simp [hlist]), fun _ => hout, fun qs hqs => by cases hout.symm.trans hqs⟩

theorem loadBase_round (o : LoadOutcome) (s : State) : (loadBase o s).round = s.round := by
  cases o
  · unfold loadBase loadAccepted
    dsimp only
    split <;> rfl
  · rfl

/-- A round record as it is at power-on, with any next serial. -/
theorem roundPairs_of_reset {s : State} {n : Nat} (h : s.round = { Round.reset with nextSerial := n })
    (hl : s.loader.phase ≠ .done → s.mode.station = none ∨ s.mode.station = some .passive) : s.RoundPairs := by
  rw [roundPairs_iff, h]
  refine ⟨⟨⟨Nat.zero_le _, ?_⟩, ?_, ?_⟩, fun hph => ⟨rfl, rfl, hl hph⟩⟩ <;> simp [Round.reset]

/-- The window and the guard timer run on, and the rest of the record stands. -/
theorem tick_roundPairs {s : State} (hs : s.RoundPairs) : s.tick.RoundPairs := by
  have ho : s.tick.ownAddress = s.ownAddress := by rw [State.ownAddress, tick_station, State.ownAddress]
  obtain ⟨hp, hl⟩ := roundPairs_iff.mp hs
  rw [roundPairs_iff, tick_round, ho, tick_loader, tick_mode]
  exact ⟨hp, hl⟩

/-- Settles O57. -/
theorem everyStepKeepsTheRound : Obligations.EveryStepKeepsTheRound := by
  intro s t hs h
  refine step_keeps (P := State.RoundPairs) (fun _ _ hm => hm.roundPairs) (fun _ _ hp => hp) (fun _ => tick_roundPairs)
    (roundPairs_of_reset (n := 0) rfl fun _ => .inl rfl) (fun _ _ hp => hp) (fun _ _ _ hp => hp) (fun _ _ hp => hp)
    (fun s _ _ hph _ hp => ?_) (fun o s hph hp => ?_) (fun q s hpass _ => ?_) (fun s hd _ _ => ?_) hs h
  · obtain ⟨hpairs, hl⟩ := roundPairs_iff.mp hp
    exact roundPairs_iff.mpr ⟨hpairs, fun _ => hl hph⟩
  · exact roundPairs_of_loading (loadBase_round o s) (loadBase_phase o s) hph hp
  · exact roundPairs_of_reset (n := s.round.nextSerial) rfl fun _ => .inr hpass
  · exact restoreAll_keeps (fun _ _ hm => hm.roundPairs) fun _ =>
      roundPairs_of_reset (n := s.round.nextSerial) rfl fun hne => absurd hd hne

end Sys2Proof.Machine
end

section
/-! PROOFS of the invariant of the channels' records (R18, R36), and of the one over followers (R60). -/

namespace Sys2Proof.Machine

/-! ### One channel's record and its unit -/

/-- The record of one channel and its unit. -/
abbrev State.ChannelWf (s : State) (i : LpId) : Prop := s.chans[i].Wf ∧ UnitFollows s.units[i] s.chans[i]

/-- A record in which nothing is held but what a state starts. -/
theorem entryFields_wf (s : State) (i : LpId) (cause : Option StartCause) (st : LpState) {c : Chan}
    (hr : c.recalls ≤ 255) (w : Timer) : ({ entryFields s i cause st (c.moved st) with watch := w } : Chan).Wf := by
  unfold entryFields
  dsimp only
  split
  case h_3 => split <;> (try split) <;> simp [Chan.Wf, Chan.moved, Chan.powerOn, hr]
  case h_5 => split <;> simp [Chan.Wf, Chan.moved, Chan.powerOn, hr]
  all_goals simp [Chan.Wf, Chan.moved, Chan.powerOn, hr]

/-- Entry into a state leaves a well-formed record and a unit that follows it. -/
theorem enterFor_channelWf (s : State) (cause : Option StartCause) (i : LpId) (st : LpState)
    (hr : s.chans[i].recalls ≤ 255) (hd : s.units[i].dirCount ≤ 255) : (enterFor cause i st s).ChannelWf i := by
  have hst := enterFor_chans_self s cause i st
  refine ⟨?_, ?_⟩
  · rw [enterFor_chans, if_pos rfl]
    exact entryFields_wf s i cause st hr _
  · rw [UnitFollows, hst, enterFor_units, if_pos rfl]
    refine ⟨?_, ?_, (follow_keeps _ _ _ _).2.2.2.2.2.trans_le hd⟩ <;> unfold ActUnit.follow <;> split <;> simp_all

theorem wf_of_entryQueued_clear {c : Chan} (h : c.Wf) : ({ c with entryQueued := false } : Chan).Wf :=
  ⟨h.1, h.2.1, h.2.2.1, h.2.2.2.1, h.2.2.2.2.1, fun _ _ => rfl, h.2.2.2.2.2.2⟩

/-- A record set in place of one of the same state. -/
theorem setChan_channelWf {s : State} {i j : LpId} {c : Chan} (hst : c.state = s.chans[i].state)
    (hw : s.chans[i].Wf → c.Wf) (h : s.ChannelWf j) : (s.setChan i c).ChannelWf j := by
  rw [State.ChannelWf, setChan_chans]
  split
  · subst j
    refine ⟨hw h.1, ?_⟩
    rw [UnitFollows, hst]
    exact h.2
  · exact h

/-- Every elementary operation keeps each channel's record and its unit. -/
theorem Move.channelWf {s t : State} (h : Move s t) {j : LpId} (hs : s.ChannelWf j) : t.ChannelWf j := by
  cases h
  case enter cause i st _ _ =>
    by_cases hj : j = i
    · subst hj
      exact enterFor_channelWf s cause j st hs.1.2.2.2.2.2.2 hs.2.2.2
    · rw [State.ChannelWf, enterFor_chans, enterFor_units, if_neg hj, if_neg hj]
      exact hs
  case chan i c _ hst _ hw _ => exact setChan_channelWf hst hw hs
  case withdraw i => exact setChan_channelWf (s := s.withRound _) rfl wf_of_entryQueued_clear hs
  case post i a c _ hp =>
    refine setChan_channelWf (s := s.withRound _) rfl (fun hw => ?_) hs
    obtain ⟨h1, h2, h3, h4, h5, -, h7⟩ := hw
    exact ⟨h1, h2, h3, h4, h5, fun hn1 hn2 => (hp.elim hn1 hn2).elim, h7⟩
  case units us hu =>
    obtain ⟨hw, ha, hc, hd⟩ := hs
    obtain ⟨ha', hc', hd'⟩ := hu j
    exact ⟨hw, ha'.trans ha, hc'.trans hc, hd' hd⟩
  all_goals exact hs

theorem Move.channelsWf {s t : State} (h : Move s t) (hs : s.ChannelsWf) : t.ChannelsWf := fun i => h.channelWf (hs i)

theorem powerOn_wf (st : LpState) (n : Nat) (w : Timer) : ({ Chan.powerOn st n with watch := w } : Chan).Wf := by
  simp [Chan.Wf, Chan.powerOn]

/-- A channel in RUNNING or unused at its power-on values, with a cleared unit. -/
theorem channelWf_of_start {s : State} {i : LpId} {st : LpState} {n : Nat} {w : Timer} {l : Option Bool}
    (hst : st = .running ∨ st = .unused) (hc : s.chans[i] = { Chan.powerOn st n with watch := w })
    (hu : s.units[i] = { ActUnit.cleared with loaded := l }) : s.ChannelWf i := by
  rw [State.ChannelWf, hc, hu]
  refine ⟨powerOn_wf st n w, ?_⟩
  rcases hst with rfl | rfl <;> simp [UnitFollows, Chan.powerOn, ActUnit.cleared]

theorem loadAccepted_chans (f : StationFields) (c : Configuration) (marks : List ClampMark) (s : State) (i : LpId) :
    (loadAccepted f c marks s).chans[i] =
      if c.lps[i].isInUse then { Chan.powerOn .running c.lps[i].retries.toNat with
        watch := freshWatch .none s.lines[i].stoprb false }
      else Chan.powerOn .unused 0 := by
  unfold loadAccepted
  dsimp only
  split <;> exact Vector.getElem_ofFn i.isLt

theorem loadAccepted_units (f : StationFields) (c : Configuration) (marks : List ClampMark) (s : State) (i : LpId) :
    (loadAccepted f c marks s).units[i] = { ActUnit.cleared with
      loaded := if (c.lps[i].isInUse && c.lps[i].mode == .loadLevel) = true then
          s.lines[i].act.map (loadedReading c.lps[i].loadPolarity)
        else none } := by
  have key : ∀ t : State, t.config = some c → t.lines = s.lines → (startUnits t)[i] = { ActUnit.cleared with
      loaded := if (c.lps[i].isInUse && c.lps[i].mode == .loadLevel) = true then
          s.lines[i].act.map (loadedReading c.lps[i].loadPolarity)
        else none } := by
    intro t ht hl
    have hb : t.block i = c.lps[i] := by simp only [State.block, ht]
    refine (Vector.getElem_ofFn i.isLt).trans ?_
    simp only [Fin.eta, State.unitMode, State.inUse, hb, hl]
    cases c.lps[i].isInUse <;> cases c.lps[i].mode <;> simp <;> rfl
  unfold loadAccepted
  dsimp only
  split <;> exact key _ rfl rfl

theorem loadBase_channelsWf (o : LoadOutcome) (s : State) : (loadBase o s).ChannelsWf := by
  intro i
  cases o with
  | accepted f c marks =>
    have hc := loadAccepted_chans f c marks s i
    have hu := loadAccepted_units f c marks s i
    split at hc
    · exact channelWf_of_start (.inl rfl) hc hu
    · exact channelWf_of_start (w := .off) (.inr rfl) hc hu
  | rejected fault f =>
    exact channelWf_of_start (w := .off) (n := 0) (l := none) (.inr rfl)
      (Vector.getElem_replicate i.isLt) (Vector.getElem_replicate i.isLt)

/-! ### The restored channels (R35, R66) -/

theorem restoreChan_config (s : State) (i : LpId) : (restoreChan s i).config = s.config := (restoreChan_moves s i).config

/-- The restored channel's record and unit are well formed whatever its unit was armed for. -/
theorem restoreChan_channelWf {s : State} {i : LpId} (hu : s.inUse i = true) (hr : s.chans[i].recalls ≤ 255)
    (hd : s.units[i].dirCount ≤ 255) : (restoreChan s i).ChannelWf i := by
  unfold restoreChan
  rw [if_pos hu]
  exact setChan_channelWf (s := enter i _ s) rfl id (enterFor_channelWf s none i _ hr hd)

theorem restoreChan_other {s : State} {i j : LpId} (h : j ≠ i) :
    (restoreChan s i).chans[j] = s.chans[j] ∧ (restoreChan s i).units[j] = s.units[j] := by
  unfold restoreChan
  split
  · have he : (enter i (restoredState (s.handPresent i) s.chans[i]) s).chans[j] = s.chans[j] ∧
        (enter i (restoredState (s.handPresent i) s.chans[i]) s).units[j] = s.units[j] :=
      ⟨by rw [enter, enterFor_chans, if_neg h], by rw [enter, enterFor_units, if_neg h]⟩
    exact ⟨by rw [setChan_chans, if_neg h]; exact he.1, he.2⟩
  · exact ⟨rfl, rfl⟩

/-- What a channel's own restoration establishes and the others' keep, the walk over all establishes. -/
theorem restoreAll_establishes {R Q : State → LpId → Prop} (self : ∀ s i, R s i → Q (restoreChan s i) i)
    (other : ∀ s i j, j ≠ i → Q s j → Q (restoreChan s i) j) (rest : ∀ s i j, j ≠ i → R s j → R (restoreChan s i) j) :
    ∀ (l : List LpId) (s : State), (∀ j ∈ l, R s j) → (∀ j ∉ l, Q s j) → l.Nodup →
      ∀ j, Q (l.foldl restoreChan s) j
  | [], _, _, hq, _ => fun j => hq j (List.not_mem_nil)
  | x :: xs, s, hr, hq, hn => by
    obtain ⟨hx, hxs⟩ := List.nodup_cons.mp hn
    refine restoreAll_establishes self other rest xs (restoreChan s x) (fun j hj => ?_) (fun j hj => ?_) hxs
    · exact rest s x j (fun h => hx (h ▸ hj)) (hr j (List.mem_cons_of_mem _ hj))
    · by_cases h : j = x
      · subst h
        exact self s j (hr j List.mem_cons_self)
      · exact other s x j h (hq j (by simp [h, hj]))

/-- The saturating counts of a channel, and its record where it is unused: what a warm restart finds. -/
abbrev State.Restorable (s : State) (i : LpId) : Prop :=
  s.chans[i].recalls ≤ 255 ∧ s.units[i].dirCount ≤ 255 ∧ (s.inUse i = false → s.ChannelWf i)

theorem restoreAll_channelsWf {s : State} (h : ∀ i, s.Restorable i) : (restoreAll s).ChannelsWf := by
  have hc {t : State} (i j : LpId) (hne : j ≠ i) := restoreChan_other (s := t) hne
  refine restoreAll_establishes (R := State.Restorable) (Q := State.ChannelWf) (fun t i hr => ?_) (fun t i j hne hq => ?_)
    (fun t i j hne hr => ?_) lpIds _ (fun j _ => ?_) (fun j hj => absurd (mem_lpIds j) hj) (by decide)
  · obtain ⟨h1, h2, h3⟩ := hr
    cases hu : t.inUse i
    · have : restoreChan t i = t := by simp [restoreChan, hu]
      rw [this]
      exact h3 hu
    · exact restoreChan_channelWf hu h1 h2
  · rw [State.ChannelWf, (hc i j hne).1, (hc i j hne).2]
    exact hq
  · rw [State.Restorable, State.ChannelWf, (hc i j hne).1, (hc i j hne).2, State.inUse_congr (restoreChan_config t i)]
    exact hr
  · obtain ⟨h1, h2, h3⟩ := h j
    simp only [State.Restorable, State.ChannelWf, State.withUnits_chans, State.withUnits_units, Fin.getElem_fin,
      Vector.getElem_ofFn, Fin.eta, State.withUnits_inUse]
    refine ⟨h1, ?_, fun hu => ?_⟩
    · split
      · exact Nat.zero_le _
      · exact h2
    · rw [if_neg (by simp [hu])]
      exact h3 hu

theorem restartBlocks_chans (s : State) : (restartBlocks s).chans = s.chans := by simp [restartBlocks]
theorem restartBlocks_units (s : State) : (restartBlocks s).units = s.units := by simp [restartBlocks]
theorem restartBlocks_config (s : State) : (restartBlocks s).config = s.config := by simp [restartBlocks]
theorem rereadImage_chans (q : Byte) (s : State) : (rereadImage q s).chans = s.chans := by
  simp [rereadImage, restartBlocks]
theorem rereadImage_units (q : Byte) (s : State) : (rereadImage q s).units = s.units := by
  simp [rereadImage, restartBlocks]
theorem rereadImage_config (q : Byte) (s : State) : (rereadImage q s).config = s.config := by
  simp [rereadImage, restartBlocks]

theorem warm_channelsWf {s : State} (h : s.ChannelsWf) : (restoreAll (restartBlocks s)).ChannelsWf := by
  refine restoreAll_channelsWf fun i => ?_
  obtain ⟨hw, hu⟩ := h i
  rw [State.Restorable, State.ChannelWf, restartBlocks_chans, restartBlocks_units]
  exact ⟨hw.2.2.2.2.2.2, hu.2.2, fun _ => ⟨hw, hu⟩⟩

theorem timer_tick_off {t : Timer} (h : t = .off) : t.tick = .off := by rw [h]; rfl

theorem chan_tick_wf {c : Chan} (h : c.Wf) : c.tick.Wf := by
  obtain ⟨h1, h2, h3, h4, h5, h6⟩ := h
  exact ⟨fun hn => timer_tick_off (h1 hn), fun hn => ⟨timer_tick_off (h2 hn).1, (h2 hn).2⟩,
    fun hn => ⟨timer_tick_off (h3 hn).1, timer_tick_off (h3 hn).2⟩,
    fun hn => ⟨timer_tick_off (h4 hn).1, (h4 hn).2⟩, fun hn => ⟨timer_tick_off (h5 hn).1, (h5 hn).2⟩, h6⟩

theorem tick_channelsWf {s : State} (h : s.ChannelsWf) : s.tick.ChannelsWf := by
  intro i
  have hc : s.tick.chans[i] = s.chans[i].tick := by rw [tick_chans]; exact Vector.getElem_ofFn i.isLt
  rw [hc, tick_units]
  exact ⟨chan_tick_wf (h i).1, (h i).2⟩

theorem step_channelsWf {s t : State} (hs : s.ChannelsWf) (h : step s = .next t) : t.ChannelsWf := by
  refine step_keeps (P := State.ChannelsWf) (fun _ _ hm => hm.channelsWf) (fun _ _ hp => hp) (fun _ => tick_channelsWf)
    (fun i => ?_) (fun _ _ hp => hp) (fun _ _ _ hp => hp) (fun _ _ hp => hp) (fun _ _ _ _ _ hp => hp)
    (fun o s _ _ => loadBase_channelsWf o s) (fun q s _ hp => ?_) (fun _ _ _ hp => warm_channelsWf hp) hs h
  · exact channelWf_of_start (w := .off) (n := 0) (l := none) (.inr rfl)
      (Vector.getElem_replicate i.isLt) (Vector.getElem_replicate i.isLt)
  · intro i
    rw [rereadImage_chans, rereadImage_units]
    exact hp i

/-! ### Followers are released with their leader (R60) -/

/-- How many channels the leader release rule could still take somewhere. -/
def State.releasable (s : State) : Nat := lpIds.countP fun i => (releaseTo s.chans[i].state).isSome

theorem releaseDue_cases {s : State} {d : Due} (h : anyLp releaseDue s = some d) :
    ∃ i st, d = .release i st ∧ releaseTo s.chans[i].state = some st := by
  obtain ⟨i, hi⟩ := anyLp_eq_some h
  unfold releaseDue at hi
  split at hi
  · obtain ⟨st, hst, rfl⟩ := Option.map_eq_some_iff.mp hi
    exact ⟨i, st, rfl, hst⟩
  · cases hi

theorem releaseTo_releaseTo {a b : LpState} (h : releaseTo a = some b) : releaseTo b = none := by
  cases a <;> simp [releaseTo] at h <;> subst h <;> rfl

/-- Each release takes one channel where the rule names it no more. -/
theorem release_lowers {s : State} {i : LpId} {st : LpState} (h : releaseTo s.chans[i].state = some st) :
    (enter i st s).releasable < s.releasable := by
  have hself : (enter i st s).chans[i].state = st := enterFor_chans_self s none i st
  have hother (j : LpId) (hj : j ≠ i) : (enter i st s).chans[j] = s.chans[j] := by
    rw [enter, enterFor_chans, if_neg hj]
  have key : ∀ l : List LpId, (l.countP fun j => (releaseTo (enter i st s).chans[j].state).isSome) +
      l.count i = l.countP fun j => (releaseTo s.chans[j].state).isSome := by
    intro l
    induction l with
    | nil => rfl
    | cons x xs ih =>
      rw [List.countP_cons, List.countP_cons, List.count_cons]
      by_cases hx : x = i
      · subst hx
        rw [hself, h, releaseTo_releaseTo h]
        simp only [beq_self_eq_true, Option.isSome_none, Option.isSome_some, if_true, Bool.false_eq_true, if_false]
        omega
      · have hxi : (x == i) = false := by simpa using hx
        rw [hother x hx, hxi, if_neg (c := false = true) (by decide)]
        omega
  have hone := List.count_eq_one_of_mem (by decide : lpIds.Nodup) (mem_lpIds i)
  have := key lpIds
  unfold State.releasable
  omega

/-- As many releases as the rule can name leave none. -/
theorem releaseFor_done : ∀ (n : Nat) (s : State), s.releasable ≤ n → anyLp releaseDue (releaseFor n s) = none
  | 0, s, h => by
    unfold releaseFor
    by_contra hne
    obtain ⟨d, hd⟩ := Option.ne_none_iff_exists'.mp hne
    obtain ⟨i, st, -, hst⟩ := releaseDue_cases hd
    exact absurd (release_lowers hst) (by omega)
  | n + 1, s, h => by
    unfold releaseFor
    split
    · assumption
    · rename_i d hd
      obtain ⟨i, st, rfl, hst⟩ := releaseDue_cases hd
      exact releaseFor_done n _ (Nat.le_of_lt_succ ((release_lowers hst).trans_le h))

theorem releaseTo_of_stopAsserted {a : LpState} (h : a.stopAsserted = true) : (releaseTo a).isSome = true := by
  cases a <;> cases h <;> rfl

/-- After the consequences of an event no follower stands stopped without its leader. -/
theorem settle_followersHeld (s : State) : (settle s).FollowersHeld := by
  intro i l hl hi
  by_contra hne
  have hq := anyLp_eq_none (releaseFor_done 8 (settleFor Config.cascadeBound s)
    (List.countP_le_length (l := lpIds))) i
  change releaseDue (settle s) i = none at hq
  generalize settle s = t at hl hi hne hq
  have hrel : t.leaderReleased i = true := by simpa [State.leaderReleased, hl] using hne
  obtain ⟨st, hst⟩ := Option.isSome_iff_exists.mp (releaseTo_of_stopAsserted hi)
  simp only [releaseDue, hrel, if_true, hst] at hq
  cases hq

/-- Configuration and stop requests stand. -/
def Still (s t : State) : Prop := t.config = s.config ∧ ∀ i, t.stopLine i = s.stopLine i

theorem Still.refl (s : State) : Still s s := ⟨rfl, fun _ => rfl⟩

theorem Still.trans {a b c : State} (h : Still a b) (h' : Still b c) : Still a c :=
  ⟨h'.1.trans h.1, fun i => (h'.2 i).trans (h.2 i)⟩

theorem still_of_eq {s t : State} (hc : t.config = s.config) (h : t.chans = s.chans) : Still s t :=
  ⟨hc, fun i => by simp only [State.stopLine, h]⟩

theorem Still.followersHeld {s t : State} (h : Still s t) (hs : s.FollowersHeld) : t.FollowersHeld := by
  intro i l hl hi
  rw [h.2] at hi ⊢
  exact hs i l ((State.leader_congr h.1 i).symm.trans hl) hi

/-- A command leaves configuration and stop requests, or ends with the consequences of its event and what leaves them. -/
def Settles (s t : State) : Prop := Still s t ∨ ∃ u, Still (settle u) t

theorem Settles.followersHeld {s t : State} (h : Settles s t) (hs : s.FollowersHeld) : t.FollowersHeld := by
  rcases h with h | ⟨u, h⟩
  · exact h.followersHeld hs
  · exact h.followersHeld (settle_followersHeld u)

theorem settles_settle (s u : State) : Settles s (settle u) := .inr ⟨u, Still.refl _⟩

theorem Settles.then {s t u : State} (h : Settles s t) (h' : Still t u) : Settles s u :=
  h.imp (·.trans h') fun ⟨v, hv⟩ => ⟨v, hv.trans h'⟩

theorem Still.settles {s t u : State} (h : Still s t) (h' : Settles t u) : Settles s u := h'.imp h.trans id

theorem Settles.ite {s a b : State} {p : Prop} [Decidable p] (ha : p → Settles s a) (hb : ¬p → Settles s b) :
    Settles s (if p then a else b) := by
  split
  · exact ha ‹_›
  · exact hb ‹_›

theorem Settles.none {s : State} : Settles s s := .inl (Still.refl s)

theorem settles_of_eq {s t : State} (hc : t.config = s.config) (h : t.chans = s.chans) : Settles s t :=
  .inl (still_of_eq hc h)

theorem setChan_still {s : State} {i : LpId} {c : Chan} (h : c.state = s.chans[i].state) : Still s (s.setChan i c) := by
  refine ⟨rfl, fun j => ?_⟩
  rw [State.stopLine, setChan_chans]
  split
  · subst j
    rw [h]; rfl
  · rfl

theorem actFirst_still (i : LpId) (high : Bool) (s : State) : Still s (actFirst i high s) := by
  unfold actFirst
  dsimp only
  split <;> exact still_of_eq rfl rfl

theorem reportActivity_settles (i : LpId) (s : State) : Settles s (reportActivity i s) := by
  rw [reportActivity_eq]
  exact Settles.ite (fun _ => settles_settle _ _) fun _ => settles_of_eq rfl rfl

theorem reportStandstill_settles (i : LpId) (s : State) : Settles s (reportStandstill i s) :=
  Settles.ite (fun _ => settles_settle _ _) fun _ => Settles.none

theorem reportExpiry_settles (i : LpId) (s : State) : Settles s (reportExpiry i s) := by
  unfold reportExpiry
  exact Settles.ite (fun _ => settles_settle _ _) fun _ => settles_of_eq rfl rfl

theorem actEdge_settles {k : State → State} (hk : ∀ t, Settles t (k t)) (modes : List ActMode) (i : LpId) (high : Bool)
    (s : State) : Settles s (actEdge modes k i high s) := by
  unfold actEdge
  refine Settles.ite (fun _ => ?_) fun _ => Settles.none
  split
  · exact .inl (actFirst_still i high s)
  · exact Settles.ite (fun _ => Settles.none) fun _ => Settles.ite (fun _ => settles_of_eq rfl rfl) fun _ =>
      (still_of_eq (t := setAct i high s) rfl rfl).settles (hk _)

theorem countStroke_settles (i : LpId) (high : Bool) (s : State) : Settles s (countStroke i high s) := by
  unfold countStroke
  exact Settles.ite (fun _ => (still_of_eq (t := s.setUnit i _) rfl rfl).settles (reportActivity_settles _ _))
    fun _ => Settles.none

theorem changeLoad_settles (i : LpId) (high : Bool) (s : State) : Settles s (changeLoad i high s) := by
  unfold changeLoad
  exact Settles.ite (fun _ => (still_of_eq (t := s.setUnit i _) rfl rfl).settles (reportActivity_settles _ _))
    fun _ => settles_of_eq rfl rfl

theorem stepPosition_settles (i : LpId) (high : Bool) (s : State) : Settles s (stepPosition i high s) := by
  unfold stepPosition
  dsimp only
  split
  · exact Settles.ite (fun _ => settles_of_eq rfl rfl) fun _ => Settles.none
  · exact Settles.none

theorem sampleMoving_settles (i : LpId) (d : BitVec 16) (s : State) : Settles s (sampleMoving i d s) := by
  unfold sampleMoving
  exact Settles.ite (fun _ => (still_of_eq (t := s.setUnit i _) rfl rfl).settles (reportActivity_settles _ _))
    fun _ => settles_of_eq rfl rfl

theorem sampleCoasting_settles (i : LpId) (d : BitVec 16) (s : State) : Settles s (sampleCoasting i d s) := by
  unfold sampleCoasting
  exact Settles.ite (fun _ => (still_of_eq (t := s.setUnit i _) rfl rfl).settles (reportStandstill_settles _ _))
    fun _ => settles_of_eq rfl rfl

theorem setStoprb_settles (i : LpId) (a : Bool) (s : State) : Settles s (setStoprb i a s) := by
  unfold setStoprb
  exact Settles.ite (fun _ => .inl ((still_of_eq (t := s.setLines i _) rfl rfl).trans (setChan_still rfl)))
    fun _ => settles_of_eq rfl rfl

theorem handBeacon_still (b : Bool) (s : State) : Still s (handBeacon b s) := still_of_eq (by simp) (by simp)
theorem beaconOutcome_still (b : Bool) (s : State) : Still s (beaconOutcome b s) := still_of_eq (by simp) (by simp)
theorem handReply_still (q : Byte) (p : List Byte) (s : State) : Still s (handReply q p s) :=
  still_of_eq (by simp) (by simp)

theorem beginListening_settles (s u : State) : Settles s (beginListening u) := by
  unfold beginListening
  dsimp only
  exact ((settles_settle s _).then (still_of_eq (t := State.withMode _ _) rfl rfl)).then (handBeacon_still _ _)

theorem answerRestart_still (s : State) : Still s (answerRestart s) := by
  unfold answerRestart
  split
  · exact (still_of_eq (t := s.withLoader _) rfl rfl).trans (handReply_still _ _ _)
  · exact Still.refl s

theorem ownAddressFrame_settles (s : State) : Settles s (ownAddressFrame s) := by
  unfold ownAddressFrame
  exact Settles.ite (fun _ => settles_settle _ _) fun _ => Settles.none

theorem fromStation_settles (src : Byte) (formOk : Bool) (k : State → State) (s : State) :
    Settles s (fromStation src formOk k s) := by
  have hf : Still s (frameEnd s) := still_of_eq rfl rfl
  have hm : Still s (frameMissed s) := still_of_eq rfl rfl
  have hk (t : State) : Still t (countFormatError t) := still_of_eq rfl rfl
  have ha (t : State) : Still t (accept t) := still_of_eq rfl rfl
  unfold fromStation
  dsimp only
  split
  · split
    · split
      · exact (hf.trans (ha _)).settles (ownAddressFrame_settles _)
      · exact settles_settle _ _
    · exact .inl (hf.trans (hk _))
  · exact .inl hm

theorem toolFrame_settles {k : State → State} (s : State) (hk : ∀ u, Settles u (k u)) : Settles s (toolFrame k s) := by
  unfold toolFrame
  have hf : Still s (accept (frameEnd s)) := still_of_eq rfl rfl
  exact Settles.ite (fun _ => Settles.ite (fun _ => hf.settles (hk _)) fun _ => .inl hf) fun _ => settles_of_eq rfl rfl

theorem readClears_still (t : Table) (a n : Nat) (s : State) : Still s (readClears t a n s) := by
  unfold readClears
  split
  · split <;> exact still_of_eq rfl rfl
  · exact still_of_eq rfl rfl
  · exact Still.refl s

theorem inquire_settles (code seq start count : Byte) (s : State) : Settles s (inquire code seq start count s) := by
  unfold inquire
  split
  · unfold answerInquiry
    exact Settles.ite (fun _ => .inl (handReply_still _ _ _)) fun _ =>
      .inl ((readClears_still _ _ _ s).trans (handReply_still _ _ _))
  · exact .inl (handReply_still _ _ _)

theorem directive_settles (code seq : Byte) {k : State → State} (s : State) (hk : ∀ u, Settles u (k u)) :
    Settles s (directive code seq k s) :=
  toolFrame_settles s fun u => Settles.ite (fun _ => .inl (handReply_still _ _ _)) fun _ => hk u

theorem settles_thenReply {s t : State} (h : Settles s t) (q : Byte) (p : List Byte) : Settles s (handReply q p t) :=
  h.then (handReply_still q p t)

theorem warmRestart_settles (s u : State) : Settles s (warmRestart u) :=
  (beginListening_settles s _).then (beaconOutcome_still _ _)

/-- Every command but those of the loader leaves the stop requests, or ends with the consequences of its event. -/
theorem exec_settles (c : Instr) (s : State) (hc : isLoaderCommand c = false) : ∃ t, exec c s = .next t ∧ Settles s t := by
  cases c
  case powerOn | loadAttemptFailed | headerRead | bodyRead => cases hc
  case actFirstLevel i high => exact ⟨_, rfl, Settles.ite (fun _ => .inl (actFirst_still i high s)) fun _ => Settles.none⟩
  case strokeEdge i high => exact ⟨_, rfl, actEdge_settles (countStroke_settles i high) _ i high s⟩
  case loadLevelChange i high => exact ⟨_, rfl, actEdge_settles (changeLoad_settles i high) _ i high s⟩
  case quadratureEdge i high => exact ⟨_, rfl, actEdge_settles (stepPosition_settles i high) _ i high s⟩
  case bothPhasesChange i a b =>
    exact ⟨_, rfl, Settles.ite (fun _ => settles_of_eq rfl rfl) fun _ => Settles.none⟩
  case rotationSample i =>
    exact ⟨_, rfl, Settles.ite (fun _ => Settles.ite (fun _ => sampleCoasting_settles i _ s)
      fun _ => sampleMoving_settles i _ s) fun _ => Settles.none⟩
  case idleTimerDecrease i =>
    exact ⟨_, rfl, Settles.ite (fun _ => Settles.ite (fun _ => reportExpiry_settles i s) fun _ => settles_of_eq rfl rfl)
      fun _ => Settles.none⟩
  case idleExpiry i => exact ⟨_, rfl, Settles.ite (fun _ => reportExpiry_settles i s) fun _ => Settles.none⟩
  case lineFirstLevel line i present =>
    refine ⟨_, rfl, Settles.ite (fun _ => ?_) fun _ => Settles.none⟩
    cases line
    · exact Settles.ite (fun _ => Settles.none) fun _ =>
        Settles.ite (fun _ => settles_settle _ _) fun _ => settles_of_eq rfl rfl
    · exact Settles.ite (fun _ => Settles.none) fun _ =>
        Settles.ite (fun _ => settles_settle _ _) fun _ => settles_of_eq rfl rfl
    · exact Settles.ite (fun _ => Settles.none) fun _ => Settles.ite
        (fun _ => Settles.ite (fun _ => settles_settle _ _) fun _ => settles_of_eq rfl rfl) fun _ => settles_of_eq rfl rfl
    · exact Settles.ite (fun _ => Settles.none) fun _ => setStoprb_settles i present s
  case handAsserted i =>
    exact ⟨_, rfl, Settles.ite (fun _ => Settles.ite (fun _ => settles_settle _ _) fun _ => settles_of_eq rfl rfl)
      fun _ => Settles.none⟩
  case stoprbEdge i a => exact ⟨_, rfl, Settles.ite (fun _ => setStoprb_settles i a s) fun _ => Settles.none⟩
  case readBackWatchExpiry i =>
    refine ⟨_, rfl, Settles.ite (fun _ => Settles.ite (fun _ => ?_) fun _ => settles_settle _ _) fun _ => Settles.none⟩
    exact .inl ((still_of_eq (t := (reportLp i .outputStuck true s).raise .outputStuck) rfl rfl).trans
      (setChan_still rfl))
  case coastTimerExpiry i =>
    exact ⟨_, rfl, Settles.ite (fun _ => .inl ((still_of_eq (t := reportLp i .coastOverrun false s) rfl rfl).trans
      (setChan_still rfl))) fun _ => Settles.none⟩
  case uptimeTick => exact ⟨_, rfl, settles_of_eq rfl rfl⟩
  case beaconTimerExpiry =>
    refine ⟨_, rfl, Settles.ite (fun _ => ?_) fun _ => Settles.none⟩
    have h : Settles s (if s.listening ∧ s.mode.listenIn = .running 0 then endListening s else s) :=
      Settles.ite (fun _ => settles_settle _ _) fun _ => Settles.none
    exact (h.then (still_of_eq (t := State.withMode _ _) rfl rfl)).then (handBeacon_still _ _)
  case attemptStart sender =>
    refine ⟨_, rfl, ?_⟩
    cases sender
    · dsimp only
      unfold ownStarts
      split
      · exact Settles.ite (fun _ => settles_of_eq rfl rfl) fun _ => Settles.none
      · exact Settles.none
    · exact settles_of_eq rfl rfl
  case lostContention loss draw =>
    refine ⟨_, rfl, ?_⟩
    split
    · exact Settles.ite (fun _ => Settles.ite (fun _ => settles_settle _ _) fun _ => settles_of_eq rfl rfl)
        fun _ => Settles.none
    · exact Settles.none
  case backoffExpiry =>
    refine ⟨_, rfl, ?_⟩
    split
    · exact settles_of_eq rfl rfl
    · exact Settles.none
  case frameCompleted =>
    refine ⟨_, rfl, ?_⟩
    split
    · exact Settles.ite (fun _ => settles_settle _ _) fun _ => Settles.none
    · exact Settles.none
  case receptionEndedEarly | crcError | formatError | foreignToolFrame =>
    exact ⟨_, rfl, Settles.ite (fun _ => settles_of_eq rfl rfl) fun _ => settles_of_eq rfl rfl⟩
  case lineIdle => exact ⟨_, rfl, settles_of_eq rfl rfl⟩
  case beacon | plan | intent | reply => exact ⟨_, rfl, fromStation_settles _ _ _ s⟩
  case addressConflict =>
    exact ⟨_, rfl, Settles.ite (fun _ => (still_of_eq (t := accept (frameEnd s)) rfl rfl).settles
      (ownAddressFrame_settles _)) fun _ => settles_of_eq rfl rfl⟩
  case silenceTimerExpiry =>
    exact ⟨_, rfl, Settles.ite (fun _ => Settles.ite (fun _ => settles_of_eq rfl rfl) fun _ => settles_settle _ _)
      fun _ => Settles.none⟩
  case answerHoldExpiry | sharedAnswerHoldExpiry => exact ⟨_, rfl, settles_of_eq rfl rfl⟩
  case clearFault seq m b =>
    exact ⟨_, rfl, directive_settles _ _ s fun u => settles_thenReply (settles_of_eq (t := clearFaults m b u) rfl rfl) _ _⟩
  case clearAlerts seq m =>
    exact ⟨_, rfl, directive_settles _ _ s fun u => Settles.ite (fun _ => .inl (handReply_still _ _ _)) fun _ =>
      settles_thenReply (settles_of_eq (t := clearFlags m u) rfl rfl) _ _⟩
  case clearLockout seq m =>
    exact ⟨_, rfl, directive_settles _ _ s fun u => Settles.ite (fun _ => settles_thenReply (settles_settle _ _) _ _)
      fun _ => .inl (handReply_still _ _ _)⟩
  case excludeLps seq m =>
    exact ⟨_, rfl, directive_settles _ _ s fun u => Settles.ite (fun _ => settles_thenReply (settles_settle _ _) _ _)
      fun _ => .inl (handReply_still _ _ _)⟩
  case includeLps seq m =>
    exact ⟨_, rfl, directive_settles _ _ s fun u => settles_thenReply (settles_settle _ _) _ _⟩
  case forgetPeer seq a =>
    exact ⟨_, rfl, directive_settles _ _ s fun u => Settles.ite (fun _ => .inl (handReply_still _ _ _)) fun _ =>
      Settles.ite (fun _ => .inl (handReply_still _ _ _)) fun _ => settles_thenReply (settles_settle _ _) _ _⟩
  case badDirective seq code x => exact ⟨_, rfl, directive_settles _ _ s fun u => .inl (handReply_still _ _ _)⟩
  case restart seq =>
    refine ⟨_, rfl, Settles.ite (fun _ => ?_) fun _ => settles_of_eq rfl rfl⟩
    refine (still_of_eq (t := accept (frameEnd s)) rfl rfl).settles (Settles.ite (fun _ => Settles.none) fun _ => ?_)
    split
    · exact settles_of_eq (rereadImage_config _ _) (rereadImage_chans _ _)
    · exact warmRestart_settles _ _
    · exact settles_thenReply (warmRestart_settles _ _) _ _
  case inquiryStationStatus | inquiryLpRuntime | inquiryPeerTable | inquiryLastRound | inquiryFaultRecords |
      inquiryCounters | inquiryConfigurationEcho | badTable =>
    exact ⟨_, rfl, toolFrame_settles s fun u => inquire_settles _ _ _ _ u⟩
  all_goals exact ⟨_, rfl, Settles.ite (fun _ => settles_settle _ _) fun _ => Settles.none⟩

theorem endLoad_followersHeld (o : LoadOutcome) (s : State) : (endLoad o s).FollowersHeld := by
  cases o with
  | accepted f c marks =>
    rw [endLoad_accepted]
    have h : Still (settle (loadAccepted f c marks s)) (listeningFrom (settle (loadAccepted f c marks s))) :=
      (still_of_eq (t := State.withMode _ _) rfl rfl).trans (handBeacon_still _ _)
    exact (h.trans (answerRestart_still _)).followersHeld (settle_followersHeld _)
  | rejected fault f =>
    rw [endLoad_rejected]
    exact (answerRestart_still _).followersHeld fun i l hl => by cases hl

theorem exec_followersHeld (c : Instr) {s t : State} (h : exec c s = .next t) (hs : s.FollowersHeld) :
    t.FollowersHeld := by
  cases hload : isLoaderCommand c
  · obtain ⟨_, he, hset⟩ := exec_settles c s hload
    cases he.symm.trans h
    exact hset.followersHeld hs
  · by_cases hp : c = .powerOn
    · subst hp
      cases h
      exact fun i l hl => by cases hl
    · obtain ⟨_, he, hl⟩ := exec_loader c s hload hp
      cases he.symm.trans h
      cases hl with
      | keeps => exact hs
      | reads => exact hs
      | ends o _ => exact endLoad_followersHeld o s

theorem tick_still (s : State) : Still s s.tick := by
  refine ⟨tick_config s, fun i => ?_⟩
  have hc : s.tick.chans[i] = s.chans[i].tick := by rw [tick_chans]; exact Vector.getElem_ofFn i.isLt
  rw [State.stopLine, hc]
  rfl

theorem step_followersHeld {s t : State} (hs : s.FollowersHeld) (h : step s = .next t) : t.FollowersHeld := by
  unfold step at h
  split at h
  · cases h
    exact (tick_still s).followersHeld hs
  · exact exec_followersHeld _ h hs

/-- Settles O58. -/
theorem everyStepKeepsTheChannels : Obligations.EveryStepKeepsTheChannels :=
  ⟨fun _ _ => step_channelsWf, fun _ _ => step_followersHeld⟩

end Sys2Proof.Machine
end

section
/-! PROOFS of the invariants of the entry-queued marks (R36, R120), and of the fault records and the link (R155, R75,
R83). -/

namespace Sys2Proof.Machine

/-! ### Unused channels and the entry-queued marks -/

theorem any_dropQueued (i j : LpId) (q : List QueueEntry) :
    ((dropQueued i q).any fun x => x.entry.lp == j) = (!decide (j = i) && q.any fun x => x.entry.lp == j) := by
  rw [Bool.eq_iff_iff]
  simp only [List.any_eq_true, mem_dropQueued, beq_iff_eq, Bool.and_eq_true, Bool.not_eq_true', decide_eq_false_iff_not]
  constructor
  · rintro ⟨x, ⟨hx, hne⟩, rfl⟩
    exact ⟨hne, x, hx, rfl⟩
  · rintro ⟨hne, x, hx, rfl⟩
    exact ⟨x, ⟨hx, hne⟩, rfl⟩

theorem any_insertQueued (x : QueueEntry) (j : LpId) (q : List QueueEntry) :
    ((insertQueued x q).any fun y => y.entry.lp == j) = (x.entry.lp == j || q.any fun y => y.entry.lp == j) := by
  rw [(insertQueued_perm x q).any_eq, List.any_cons]

theorem any_toWake (i j : LpId) (q : List QueueEntry) :
    ((q.map (entryToWake i)).any fun x => x.entry.lp == j) = q.any fun x => x.entry.lp == j := by
  simp [List.any_map, Function.comp_def, entryToWake_keeps]

/-- A configuration is held only where the loader has finished outside PASSIVE. -/
abbrev State.ConfigHeld (s : State) : Prop :=
  s.loader.phase ≠ .done ∨ s.mode.station = some .passive → s.config = none

/-- The parts of `State.QueueMarks` that speak of one load point. -/
abbrev State.MarkAt (s : State) (i : LpId) : Prop :=
  (s.inUse i = false → s.chans[i] = Chan.powerOn .unused 0) ∧
    s.chans[i].entryQueued = s.round.queue.any fun q => q.entry.lp == i

theorem queueMarks_iff {s : State} : s.QueueMarks ↔ s.ConfigHeld ∧ ∀ i, s.MarkAt i :=
  ⟨fun ⟨a, b, c⟩ => ⟨a, fun i => ⟨b i, c i⟩⟩, fun ⟨a, b⟩ => ⟨a, fun i => (b i).1, fun i => (b i).2⟩⟩

theorem State.MarkAt.inUse_of_touchable {s : State} {i : LpId} (h : s.MarkAt i) (hu : s.Touchable i) :
    s.inUse i = true := by
  rcases hu with hu | hne
  · exact hu
  · by_contra hn
    exact hne (h.1 (by simpa using hn))

/-- What the mark says depends on the configuration, the channel and the queue. -/
theorem markAt_congr {s t : State} {i : LpId} (hc : t.config = s.config) (hch : t.chans[i] = s.chans[i])
    (hq : (t.round.queue.any fun q => q.entry.lp == i) = s.round.queue.any fun q => q.entry.lp == i) (h : s.MarkAt i) :
    t.MarkAt i := by
  rw [State.MarkAt, State.inUse_congr hc, hch, hq]
  exact h

theorem Move.configHeld {s t : State} (h : Move s t) (hs : s.ConfigHeld) : t.ConfigHeld := by
  cases h
  case mode m hm =>
    intro hph
    rcases hm with hm | ⟨-, -, hm⟩
    · refine hs (hph.imp id fun hp => ?_)
      rw [← hm]
      exact hp
    · exact hs (.inl (hph.resolve_right hm))
  all_goals exact hs

/-- A channel that a rule acts on is in use, so that its mark alone counts. -/
theorem State.MarkAt.of_touchable {s t : State} {i : LpId} (h : s.MarkAt i) (hu : s.Touchable i)
    (hc : t.config = s.config) (hm : t.chans[i].entryQueued = t.round.queue.any fun q => q.entry.lp == i) :
    t.MarkAt i := by
  refine ⟨fun hn => ?_, hm⟩
  rw [State.inUse_congr hc, h.inUse_of_touchable hu] at hn
  cases hn

theorem enterFor_markAt {s : State} {i j : LpId} (cause : Option StartCause) (st : LpState) (hu : s.Touchable i)
    (hs : s.MarkAt j) : (enterFor cause i st s).MarkAt j := by
  by_cases hj : j = i
  · subst hj
    refine hs.of_touchable hu rfl ?_
    rw [enterFor_chans, if_pos rfl, enterFor_round, any_dropQueued]
    simp only [decide_true, Bool.not_true, Bool.false_and]
    exact (entryFields_keeps s j cause st (s.chans[j].moved st)).2.2.2.2.2.2.2.2.1
  · refine markAt_congr (s := s) rfl (by rw [enterFor_chans, if_neg hj]) ?_ hs
    rw [enterFor_round, any_dropQueued]
    simp [hj]

theorem setChan_markAt {s : State} {i j : LpId} {c : Chan} (hu : s.Touchable i)
    (hq : c.entryQueued = s.chans[i].entryQueued) (hs : s.MarkAt j) : (s.setChan i c).MarkAt j := by
  by_cases hj : j = i
  · subst hj
    refine hs.of_touchable hu rfl ?_
    rw [setChan_chans_self, hq]
    exact hs.2
  · exact markAt_congr (s := s) rfl (by rw [setChan_chans, if_neg hj]) rfl hs

theorem withdraw_markAt {s : State} {j : LpId} (i : LpId) (hs : s.MarkAt j) : (withdraw i s).MarkAt j := by
  have hq : (withdraw i s).round.queue = dropQueued i s.round.queue := rfl
  by_cases hj : j = i
  · subst hj
    refine ⟨fun hn => ?_, ?_⟩
    · have hch : s.chans[j] = Chan.powerOn .unused 0 := hs.1 hn
      rw [withdraw, setChan_chans_self, hch]
      rfl
    · rw [hq, any_dropQueued, withdraw, setChan_chans_self]
      simp
  · refine markAt_congr (s := s) rfl (by rw [withdraw, setChan_chans, if_neg hj]; rfl) ?_ hs
    rw [hq, any_dropQueued]
    simp [hj]

theorem post_markAt {s : State} {i j : LpId} (a : Action) (c : Cause) (hu : s.Touchable i) (hs : s.MarkAt j) :
    (post i a c s).MarkAt j := by
  have hq : (post i a c s).round.queue.any (fun q => q.entry.lp == j) =
      (i == j || ((dropQueued i s.round.queue).any fun q => q.entry.lp == j)) := any_insertQueued _ j _
  by_cases hj : j = i
  · subst hj
    refine hs.of_touchable hu rfl ?_
    rw [hq, post, setChan_chans_self]
    simp
  · refine markAt_congr (s := s) rfl (by rw [post, setChan_chans, if_neg hj]; rfl) ?_ hs
    rw [hq, any_dropQueued]
    simp [hj, Ne.symm hj]

/-- Every elementary operation keeps every mark; one on a channel finds it in use. -/
theorem Move.markAt {s t : State} (h : Move s t) {j : LpId} (hs : s.MarkAt j) : t.MarkAt j := by
  cases h
  case enter cause i st hu _ => exact enterFor_markAt cause st hu hs
  case chan i c hu _ hq _ _ => exact setChan_markAt hu hq hs
  case withdraw i => exact withdraw_markAt i hs
  case post i a c hu _ => exact post_markAt a c hu hs
  case toWake i => exact markAt_congr (s := s) rfl rfl (any_toWake i j _) hs
  case round r hq _ => exact markAt_congr (s := s) rfl rfl (by rw [State.withRound_round, hq]) hs
  all_goals exact hs

theorem Move.queueMarks {s t : State} (h : Move s t) (hs : s.QueueMarks) : t.QueueMarks := by
  rw [queueMarks_iff] at *
  exact ⟨h.configHeld hs.1, fun i => h.markAt (hs.2 i)⟩

/-- Without a configuration no load point is in use, and so no entry is queued. -/
theorem State.MarkAt.of_no_config {s : State} {i : LpId} (h : s.MarkAt i) (hc : s.config = none) :
    s.chans[i] = Chan.powerOn .unused 0 ∧ (s.round.queue.any fun q => q.entry.lp == i) = false := by
  have hch := h.1 (by simp [State.inUse, State.block, hc, LpBlock.blank, LpBlock.isInUse])
  exact ⟨hch, by rw [← h.2, hch]; rfl⟩

theorem loadBase_queueMarks (o : LoadOutcome) {s : State} (hph : s.loader.phase ≠ .done) (hs : s.QueueMarks) :
    (loadBase o s).QueueMarks := by
  rw [queueMarks_iff] at *
  obtain ⟨hc, hm⟩ := hs
  have hq (i : LpId) := ((hm i).of_no_config (hc (.inl hph))).2
  refine ⟨fun h => ?_, fun i => ?_⟩
  · cases o with
    | accepted f c marks =>
      have hst : (loadBase (.accepted f c marks) s).mode.station = some .listenIn := rfl
      simp [loadBase_phase, hst] at h
    | rejected => rfl
  · rw [State.MarkAt, loadBase_round, hq]
    cases o with
    | accepted f c marks =>
      rw [loadBase, loadAccepted_chans]
      have hb : (loadAccepted f c marks s).inUse i = c.lps[i].isInUse := by
        unfold loadAccepted
        dsimp only
        split <;> rfl
      rw [hb]
      split
      · rename_i hu
        exact ⟨fun hn => absurd hu (by simp [hn, -Fin.getElem_fin]), rfl⟩
      · exact ⟨fun _ => rfl, rfl⟩
    | rejected fault f =>
      have hch : (loadBase (.rejected fault f) s).chans[i] = Chan.powerOn .unused 0 := Vector.getElem_replicate i.isLt
      rw [hch]
      exact ⟨fun _ => rfl, rfl⟩

theorem restartBlocks_queue (s : State) : (restartBlocks s).round.queue = [] := by simp [restartBlocks, Round.reset]
theorem rereadImage_queue (q : Byte) (s : State) : (rereadImage q s).round.queue = [] := by
  simp [rereadImage, restartBlocks, Round.reset]

theorem rereadImage_queueMarks (q : Byte) {s : State} (hp : s.mode.station = some .passive) (hs : s.QueueMarks) :
    (rereadImage q s).QueueMarks := by
  rw [queueMarks_iff] at *
  have hc := hs.1 (.inr hp)
  refine ⟨fun _ => (rereadImage_config q s).trans hc, fun i => ?_⟩
  have hch := ((hs.2 i).of_no_config hc).1
  rw [State.MarkAt, rereadImage_chans, hch]
  rw [rereadImage_queue]
  exact ⟨fun _ => by rfl, by rfl⟩

theorem restoreChan_queue {s : State} (i : LpId) (h : s.round.queue = []) : (restoreChan s i).round.queue = [] := by
  unfold restoreChan
  split
  · have he (st : LpState) : (enter i st s).round.queue = [] := by
      rw [enter, enterFor_round, h]
      rfl
    exact he (restoredState (s.handPresent i) s.chans[i])
  · exact h

theorem restoreAll_queue {s : State} (h : s.round.queue = []) : (restoreAll s).round.queue = [] := by
  unfold restoreAll
  exact foldl_induct (P := fun s => s.round.queue = []) (fun _ i => restoreChan_queue i) _ _ h

/-- A channel's restoration leaves its mark clear; one that is unused it leaves. -/
theorem restoreChan_mark {s : State} {i : LpId} (h : s.inUse i = false → s.chans[i] = Chan.powerOn .unused 0) :
    (s.inUse i = false → (restoreChan s i).chans[i] = Chan.powerOn .unused 0) ∧
      (restoreChan s i).chans[i].entryQueued = false := by
  unfold restoreChan
  cases hu : s.inUse i
  · have hch := h hu
    rw [if_neg (by decide), hch]
    exact ⟨fun _ => rfl, rfl⟩
  · refine ⟨nofun, ?_⟩
    rw [if_pos rfl, setChan_chans_self]
    dsimp only
    rw [enter, enterFor_chans, if_pos rfl]
    exact (entryFields_keeps s i none _ (s.chans[i].moved _)).2.2.2.2.2.2.2.2.1

theorem warm_queueMarks {s : State} (hd : s.loader.phase = .done) (hw : s.Working) (hs : s.QueueMarks) :
    (restoreAll (restartBlocks s)).QueueMarks := by
  rw [queueMarks_iff] at *
  have hq : (restoreAll (restartBlocks s)).round.queue = [] := restoreAll_queue (restartBlocks_queue s)
  refine ⟨restoreAll_keeps (fun _ _ hm => hm.configHeld) fun us => ?_, fun i => ?_⟩
  · rintro (hn | hp)
    · exact absurd hd hn
    · exact absurd hp hw.2
  · rw [State.MarkAt, hq]
    refine restoreAll_establishes (R := fun t j => t.inUse j = false → t.chans[j] = Chan.powerOn .unused 0)
      (Q := fun t j => (t.inUse j = false → t.chans[j] = Chan.powerOn .unused 0) ∧ t.chans[j].entryQueued = false)
      (fun t j h => ?_) (fun t j k hne h => ?_) (fun t j k hne h => ?_) lpIds _ (fun j _ => ?_)
      (fun j hj => absurd (mem_lpIds j) hj) (by decide) i
    · rw [State.inUse_congr (restoreChan_config t j)]
      exact restoreChan_mark h
    · rw [State.inUse_congr (restoreChan_config t j), (restoreChan_other hne).1]
      exact h
    · rw [State.inUse_congr (restoreChan_config t j), (restoreChan_other hne).1]
      exact h
    · rw [State.withUnits_inUse, State.inUse_congr (restartBlocks_config s), State.withUnits_chans, restartBlocks_chans]
      exact (hs.2 j).1

theorem tick_queueMarks {s : State} (hs : s.QueueMarks) : s.tick.QueueMarks := by
  rw [queueMarks_iff] at *
  refine ⟨?_, fun i => ?_⟩
  · rw [State.ConfigHeld, tick_loader, tick_mode, tick_config]
    exact hs.1
  · have hch : s.tick.chans[i] = s.chans[i].tick := by rw [tick_chans]; exact Vector.getElem_ofFn i.isLt
    obtain ⟨h1, h2⟩ := hs.2 i
    rw [State.MarkAt, State.inUse_congr (tick_config s), hch, tick_round]
    exact ⟨fun hn => by rw [h1 hn]; rfl, h2⟩

/-- Settles O59. -/
theorem everyStepKeepsTheQueueMarks : Obligations.EveryStepKeepsTheQueueMarks := by
  intro s t hs h
  refine step_keeps (P := State.QueueMarks) (fun _ _ hm => hm.queueMarks) (fun _ _ hp => hp) (fun _ => tick_queueMarks)
    ⟨fun _ => rfl, fun i _ => Vector.getElem_replicate i.isLt, fun i => ?_⟩ (fun _ _ hp => hp) (fun _ _ _ hp => hp)
    (fun _ _ hp => hp) (fun s _ _ hph _ hp => ⟨fun _ => hp.1 (.inl hph), hp.2⟩) (fun o s hph => loadBase_queueMarks o hph)
    (fun q s => rereadImage_queueMarks q) (fun s => warm_queueMarks) hs h
  have hc : State.reset.chans[i] = Chan.powerOn .unused 0 := Vector.getElem_replicate i.isLt
  rw [hc]
  rfl

/-! ### The fault records and the link -/

/-- A report reaches a record in either case of R155 and keeps its rule. -/
theorem report_wf {r : FaultRecord} (code : FaultCode) (time : BitVec 32) (x : FaultState) (locking : Bool) :
    (r.report code time x locking).Wf := by
  unfold FaultRecord.report
  split
  · rename_i hv
    refine ⟨fun hn => (by cases hv.symm.trans hn), Nat.min_le_left _ _, ?_⟩
    simp [satSucc]
  · exact ⟨fun hn => absurd hn (by simp), Nat.zero_le _, by simp⟩

theorem reportLp_faultsWf {s : State} (i : LpId) (code : FaultCode) (locking : Bool) (h : s.faults.Wf) :
    (reportLp i code locking s).faults.Wf := by
  refine ⟨fun j => ?_, h.2⟩
  have : (reportLp i code locking s).faults.lps[j] =
      if j = i then s.faults.lps[i].report code s.faults.uptime (.lp s.chans[i].state) locking else s.faults.lps[j] :=
    get_set_lp i j _ _
  rw [this]
  split
  · exact report_wf _ _ _ _
  · exact h.1 j

/-- The fault records and the link counts. -/
abbrev State.RecordsWf (s : State) : Prop := s.faults.Wf ∧ s.link.Wf

theorem Move.recordsWf {s t : State} (h : Move s t) (hs : s.RecordsWf) : t.RecordsWf := by
  cases h
  case link l hw _ => exact ⟨hs.1, hw hs.2⟩
  case report i code locking => exact ⟨reportLp_faultsWf i code locking hs.1, hs.2⟩
  all_goals exact hs

theorem clear_wf : FaultRecord.clear.Wf := by simp [FaultRecord.Wf, FaultRecord.clear]

theorem clearFaults_lps (m : Byte) (b : Bool) (s : State) (i : LpId) : (clearFaults m b s).faults.lps[i] =
    if s.inUse i && maskBit m i then FaultRecord.clear else s.faults.lps[i] := Vector.getElem_ofFn i.isLt

theorem clearFaults_wf (m : Byte) (b : Bool) {s : State} (h : s.faults.Wf) : (clearFaults m b s).faults.Wf := by
  refine ⟨fun i => ?_, ?_⟩
  · rw [clearFaults_lps]
    split
    · exact clear_wf
    · exact h.1 i
  · change FaultRecord.Wf (if b then FaultRecord.clear else s.faults.station)
    split
    · exact clear_wf
    · exact h.2

/-- What a load's report leaves of the fault unit. -/
theorem loadBase_faults (o : LoadOutcome) (s : State) : (loadBase o s).faults = s.faults ∨
    ∃ code, (loadBase o s).faults = { s.faults with
      station := s.faults.station.report code s.faults.uptime (if s.loader.warm then .passive else .startUp) false
      flags := s.faults.flags ||| EventClass.configFault.bit } := by
  cases o with
  | accepted f c marks =>
    unfold loadBase loadAccepted
    dsimp only
    split
    · exact .inl rfl
    · exact .inr ⟨.clamped, rfl⟩
  | rejected fault f => exact .inr ⟨fault, rfl⟩

theorem loadBase_link (o : LoadOutcome) (s : State) : (loadBase o s).link = s.link := by
  cases o
  · unfold loadBase loadAccepted
    dsimp only
    split <;> rfl
  · rfl

theorem loadBase_recordsWf (o : LoadOutcome) {s : State} (h : s.RecordsWf) : (loadBase o s).RecordsWf := by
  rw [State.RecordsWf, loadBase_link]
  refine ⟨?_, h.2⟩
  rcases loadBase_faults o s with he | ⟨code, he⟩ <;> rw [he]
  · exact h.1
  · exact ⟨h.1.1, report_wf _ _ _ _⟩

theorem restarted_link_wf (l : Link) : l.restarted.Wf := by
  refine ⟨?_, nofun⟩
  simp [LinkCounters.Wf, Link.restarted, Link.reset, LinkCounters.zero]

theorem tick_recordsWf {s : State} (h : s.RecordsWf) : s.tick.RecordsWf := by
  rw [State.RecordsWf, tick_faults, tick_link]
  refine ⟨h.1, h.2.1, fun t ht => ?_⟩
  obtain ⟨u, hu, rfl⟩ := Option.map_eq_some_iff.mp ht
  exact h.2.2 u hu

theorem restartBlocks_faults (s : State) : (restartBlocks s).faults = s.faults := by simp [restartBlocks]
theorem restartBlocks_link (s : State) : (restartBlocks s).link = s.link.restarted := by simp [restartBlocks]
theorem rereadImage_faults (q : Byte) (s : State) : (rereadImage q s).faults = s.faults := by
  simp [rereadImage, restartBlocks]
theorem rereadImage_link (q : Byte) (s : State) : (rereadImage q s).link = s.link.restarted := by
  simp [rereadImage, restartBlocks]

theorem reset_recordsWf : State.reset.RecordsWf := by
  refine ⟨⟨fun i => ?_, clear_wf⟩, ⟨?_, nofun⟩⟩
  · have : State.reset.faults.lps[i] = FaultRecord.clear := Vector.getElem_replicate i.isLt
    rw [this]
    exact clear_wf
  · simp [LinkCounters.Wf, State.reset, Link.reset, LinkCounters.zero]

theorem step_recordsWf {s t : State} (hs : s.RecordsWf) (h : step s = .next t) : t.RecordsWf := by
  refine step_keeps (P := State.RecordsWf) (fun _ _ hm => hm.recordsWf) (fun _ _ hp => hp) (fun _ => tick_recordsWf)
    reset_recordsWf (fun _ _ hp => hp) (fun m b s hp => ⟨clearFaults_wf m b hp.1, hp.2⟩) (fun _ _ hp => hp)
    (fun _ _ _ _ _ hp => hp) (fun o s _ => loadBase_recordsWf o) (fun q s _ hp => ?_) (fun s _ _ hp => ?_) hs h
  · rw [State.RecordsWf, rereadImage_faults, rereadImage_link]
    exact ⟨hp.1, restarted_link_wf _⟩
  · refine restoreAll_keeps (fun _ _ hm => hm.recordsWf) fun us => ?_
    rw [State.RecordsWf, State.withUnits_faults, State.withUnits_link, restartBlocks_faults, restartBlocks_link]
    exact ⟨hp.1, restarted_link_wf _⟩

/-! ### The loader holds nothing -/

theorem loaderHoldsNothing_iff {s : State} : s.LoaderHoldsNothing ↔
    (s.loader.phase ≠ .done → (s.mode.station = none ∨ s.mode.station = some .passive) ∧ s.link.Empty) := Iff.rfl

theorem Move.loaderHoldsNothing {s t : State} (h : Move s t) (hs : s.LoaderHoldsNothing) : t.LoaderHoldsNothing := by
  have key (hph : s.loader.phase ≠ .done) : ¬s.MaySend := by
    rintro (hw | hd)
    · exact ((hs hph).1.elim (absurd · hw.1) (absurd · hw.2))
    · exact hph hd
  cases h
  case link l _ he =>
    exact fun hph => ⟨(hs hph).1, (he.resolve_left (key hph)) (hs hph).2⟩
  case mode m hm =>
    refine fun hph => ⟨?_, (hs hph).2⟩
    rcases hm with hm | ⟨hsend, -⟩
    · exact hm ▸ (hs hph).1
    · exact absurd hsend (key hph)
  all_goals exact hs

theorem restarted_link_empty (l : Link) : l.restarted.Empty := ⟨rfl, rfl, rfl, rfl, rfl, rfl⟩

theorem tick_loaderHoldsNothing {s : State} (hs : s.LoaderHoldsNothing) : s.tick.LoaderHoldsNothing := by
  rw [loaderHoldsNothing_iff, tick_loader, tick_mode, tick_link] at *
  refine fun hph => ⟨(hs hph).1, ?_, (hs hph).2.2⟩
  rw [Option.map_eq_none_iff]
  exact (hs hph).2.1

theorem step_loaderHoldsNothing {s t : State} (hs : s.LoaderHoldsNothing) (h : step s = .next t) :
    t.LoaderHoldsNothing := by
  refine step_keeps (P := State.LoaderHoldsNothing) (fun _ _ hm => hm.loaderHoldsNothing) (fun _ _ hp => hp)
    (fun _ => tick_loaderHoldsNothing) (fun _ => ⟨.inl rfl, rfl, rfl, rfl, rfl, rfl, rfl⟩) (fun _ _ hp => hp)
    (fun _ _ _ hp => hp) (fun _ _ hp => hp) (fun s _ _ hph _ hp _ => hp hph)
    (fun o s _ _ hph => absurd (loadBase_phase o s) hph) (fun q s hpass _ _ => ⟨.inr hpass, ?_⟩)
    (fun s hd _ _ => ?_) hs h
  · rw [rereadImage_link]
    exact restarted_link_empty _
  · refine restoreAll_keeps (fun _ _ hm => hm.loaderHoldsNothing) fun us hph => absurd hd hph

/-- Settles O60. -/
theorem everyStepKeepsRecordsAndCounters : Obligations.EveryStepKeepsRecordsAndCounters :=
  ⟨fun _ _ hf hl h => step_recordsWf ⟨hf, hl⟩ h, fun _ _ => step_loaderHoldsNothing⟩

end Sys2Proof.Machine
end

section
/-! PROOFS of what no command but a few changes: the queue of commands, the configuration, the uptime, the fault records
and flags, and a hard lockout. -/

namespace Sys2Proof.Machine

/-! ### What a load and a restart leave -/

theorem loadBase_pending (o : LoadOutcome) (s : State) : (loadBase o s).pending = s.pending := by
  cases o
  · unfold loadBase loadAccepted
    dsimp only
    split <;> rfl
  · rfl

theorem restartBlocks_pending (s : State) : (restartBlocks s).pending = s.pending := by simp [restartBlocks]
theorem rereadImage_pending (q : Byte) (s : State) : (rereadImage q s).pending = s.pending := by
  simp [rereadImage, restartBlocks]
theorem restartBlocks_station (s : State) : (restartBlocks s).station = s.station := by simp [restartBlocks]
theorem rereadImage_station (q : Byte) (s : State) : (rereadImage q s).station = s.station := by
  simp [rereadImage, restartBlocks]
theorem restoreAll_pending (s : State) : (restoreAll s).pending = s.pending := (restoreAll_moves s).pending
theorem restoreAll_config (s : State) : (restoreAll s).config = s.config := (restoreAll_moves s).config
theorem restoreAll_station (s : State) : (restoreAll s).station = s.station := (restoreAll_moves s).station
theorem restoreAll_uptime (s : State) : (restoreAll s).faults.uptime = s.faults.uptime := (restoreAll_moves s).uptime

/-! ### The queue of commands -/

/-- Settles O1. -/
theorem stepRunsFrontCommand : Obligations.StepRunsFrontCommand := fun _ _ _ => rfl

/-- Settles O3. -/
theorem everyCommandCompletes : Obligations.EveryCommandCompletes := by
  intro c s
  obtain ⟨t, h⟩ := exec_next c s
  refine ⟨t, h, ?_⟩
  refine exec_keeps (P := fun u => u.pending = s.pending) (fun _ _ hm hp => hm.pending.trans hp) (fun _ => rfl)
    (fun _ => rfl) (fun _ _ _ _ _ hp => hp) (fun _ _ _ _ hp => hp) (fun _ _ _ _ _ => rfl)
    (fun _ _ o => loadBase_pending o s) (fun q u _ hp => (rereadImage_pending q u).trans hp) (fun u _ _ hp => ?_) rfl h
  rw [restoreAll_pending, restartBlocks_pending, hp]

/-! ### The configuration and the uptime -/

/-- Settles O9. -/
theorem configurationChangesOnlyAtALoad : Obligations.ConfigurationChangesOnlyAtALoad := by
  intro c s t hc h
  have hload {P : Prop} (h : isLoaderCommand c = true) : P := by simp [hc] at h
  refine exec_keeps (P := fun u => u.config = s.config ∧ u.station = s.station)
    (fun _ _ hm hp => ⟨hm.config.trans hp.1, hm.station.trans hp.2⟩) (fun hp => hload (by rw [hp]; rfl)) (fun _ => ⟨rfl, rfl⟩)
    (fun _ _ _ _ _ hp => hp) (fun _ _ _ _ hp => hp) (fun hl => hload hl) (fun hl => hload hl) (fun q u _ hp => ?_)
    (fun u _ _ hp => ?_) ⟨rfl, rfl⟩ h
  · rwa [rereadImage_config, rereadImage_station]
  · rwa [restoreAll_config, restoreAll_station, restartBlocks_config, restartBlocks_station]

theorem loadBase_uptime (o : LoadOutcome) (s : State) : (loadBase o s).faults.uptime = s.faults.uptime := by
  rcases loadBase_faults o s with h | ⟨_, h⟩ <;> rw [h]

/-- Settles O48. -/
theorem uptimeCountsSeconds : Obligations.UptimeCountsSeconds := by
  refine ⟨fun _ => rfl, fun s hs => ?_, fun c s t htick hpo h => ?_⟩
  · have : s.faults.uptime + 1 = 0 := by rw [hs]; rfl
    rw [← this]
    rfl
  · refine exec_keeps (P := fun u => u.faults.uptime = s.faults.uptime) (fun _ _ hm hp => hm.uptime.trans hp)
      (fun hp => absurd hp hpo) (fun ht => absurd ht htick) (fun _ _ _ _ _ hp => hp) (fun _ _ _ _ hp => hp)
      (fun _ _ _ _ _ => rfl) (fun _ _ o => loadBase_uptime o s) (fun q u _ hp => ?_) (fun u _ _ hp => ?_) rfl h
    · rwa [rereadImage_faults]
    · rwa [restoreAll_uptime, restartBlocks_faults]

/-! ### First capture (R155) and the flags -/

theorem report_of_clear {r : FaultRecord} (h : r.valid = false) (code : FaultCode) (time : BitVec 32) (st : FaultState)
    (locking : Bool) : r.report code time st locking =
      { valid := true, first := some code, firstTime := time, stateAt := some st, locking, last := none,
        further := 0, overflow := false } := by
  simp [FaultRecord.report, h]

theorem report_of_valid {r : FaultRecord} (h : r.valid = true) (code : FaultCode) (time : BitVec 32) (st : FaultState)
    (locking : Bool) : r.report code time st locking =
      { r with last := some code, further := min 255 (r.further + 1), overflow := true } := by
  simp [FaultRecord.report, h, satSucc]

/-- What stands in a record that has captured a fault: the first fault, and the count of further ones does not fall
and stays within its limit. -/
def Stands (r r' : FaultRecord) : Prop :=
  r'.further ≤ 255 ∧ (r.valid = true → r'.valid = true ∧ r'.first = r.first ∧ r'.firstTime = r.firstTime ∧
    r'.stateAt = r.stateAt ∧ r'.locking = r.locking ∧ r.further ≤ r'.further)

theorem Stands.refl {r : FaultRecord} (h : r.further ≤ 255) : Stands r r :=
  ⟨h, fun hv => ⟨hv, rfl, rfl, rfl, rfl, Nat.le_refl _⟩⟩

theorem Stands.report {r r' : FaultRecord} (h : Stands r r') (code : FaultCode) (time : BitVec 32) (st : FaultState)
    (locking : Bool) : Stands r (r'.report code time st locking) := by
  obtain ⟨hle, hst⟩ := h
  refine ⟨(report_wf _ _ _ _).2.1, fun hv => ?_⟩
  obtain ⟨hv', h1, h2, h3, h4, h5⟩ := hst hv
  rw [report_of_valid hv']
  exact ⟨hv', h1, h2, h3, h4, Nat.le_min.mpr ⟨h5.trans hle, h5.trans (Nat.le_succ _)⟩⟩

/-- All nine records stand. -/
def RecordsStand (f g : FaultUnit) : Prop := (∀ i : LpId, Stands f.lps[i] g.lps[i]) ∧ Stands f.station g.station

theorem reportLp_lps (i j : LpId) (code : FaultCode) (locking : Bool) (s : State) :
    (reportLp i code locking s).faults.lps[j] =
      if j = i then s.faults.lps[i].report code s.faults.uptime (.lp s.chans[i].state) locking else s.faults.lps[j] :=
  get_set_lp i j _ _

theorem Move.recordsStand {f : FaultUnit} {s t : State} (h : Move s t) (hs : RecordsStand f s.faults) :
    RecordsStand f t.faults := by
  cases h
  case report i code locking =>
    refine ⟨fun j => ?_, hs.2⟩
    rw [reportLp_lps]
    split
    · subst j
      exact (hs.1 i).report _ _ _ _
    · exact hs.1 j
  all_goals exact hs

theorem loadBase_recordsStand {f : FaultUnit} (o : LoadOutcome) {s : State} (hs : RecordsStand f s.faults) :
    RecordsStand f (loadBase o s).faults := by
  rcases loadBase_faults o s with h | ⟨_, h⟩ <;> rw [h]
  · exact hs
  · exact ⟨hs.1, hs.2.report _ _ _ _⟩

theorem flagSet_or {f g : BitVec 9} {k : Nat} (h : f.getLsbD k = true) : (f ||| g).getLsbD k = true := by simp [h]

/-- No elementary operation clears a flag. -/
theorem Move.flagSet {e : EventClass} {s t : State} (h : Move s t) (hs : s.flagSet e = true) : t.flagSet e = true := by
  cases h
  case raise => exact flagSet_or hs
  case report => exact flagSet_or hs
  all_goals exact hs

theorem loadBase_flagSet {e : EventClass} (o : LoadOutcome) {s : State} (hs : s.flagSet e = true) :
    (loadBase o s).flagSet e = true := by
  unfold State.flagSet at *
  rcases loadBase_faults o s with h | ⟨_, h⟩ <;> rw [h]
  · exact hs
  · exact flagSet_or hs

theorem exec_recordsStand {c : Instr} {s t : State} (hwf : s.faults.Wf) (hpo : c ≠ .powerOn)
    (hc : ∀ seq lps station, c ≠ .clearFault seq lps station) (h : exec c s = .next t) :
    RecordsStand s.faults t.faults := by
  have hrefl : RecordsStand s.faults s.faults := ⟨fun i => Stands.refl (hwf.1 i).2.1, Stands.refl hwf.2.2.1⟩
  refine exec_keeps (P := fun u => RecordsStand s.faults u.faults) (fun _ _ hm => hm.recordsStand)
    (fun hp => absurd hp hpo) (fun _ => hrefl) (fun q m b hq => absurd hq (hc q m b)) (fun _ _ _ _ hp => hp)
    (fun _ _ _ _ _ => hrefl) (fun _ _ o => loadBase_recordsStand o hrefl) (fun q u _ hp => ?_) (fun u _ _ hp => ?_)
    hrefl h
  · rwa [rereadImage_faults]
  · refine restoreAll_keeps (P := fun u => RecordsStand s.faults u.faults) (fun _ _ hm => hm.recordsStand) fun _ => ?_
    rwa [State.withUnits_faults, restartBlocks_faults]

theorem exec_flagSet {c : Instr} {s t : State} {e : EventClass} (hpo : c ≠ .powerOn)
    (hc : ∀ seq classes, c ≠ .clearAlerts seq classes) (hs : s.flagSet e = true) (h : exec c s = .next t) :
    t.flagSet e = true := by
  refine exec_keeps (P := fun u => u.flagSet e = true) (fun _ _ hm => hm.flagSet) (fun hp => absurd hp hpo)
    (fun _ => hs) (fun _ _ _ _ _ hp => hp) (fun q m hq => absurd hq (hc q m)) (fun _ _ _ _ _ => hs)
    (fun _ _ o => loadBase_flagSet o hs) (fun q u _ hp => ?_) (fun u _ _ hp => ?_) hs h
  · rwa [State.flagSet, rereadImage_faults]
  · refine restoreAll_keeps (P := fun u => u.flagSet e = true) (fun _ _ hm => hm.flagSet) fun _ => ?_
    rwa [State.flagSet, State.withUnits_faults, restartBlocks_faults]

/-- Settles O49. -/
theorem firstCaptureStands : Obligations.FirstCaptureStands := by
  refine ⟨fun r code time st locking => ⟨fun h => report_of_clear h code time st locking,
    fun h => report_of_valid h code time st locking⟩, fun c s t hwf hpo h => ⟨fun hc r r' hr hv => ?_, fun hc e he => ?_⟩⟩
  · obtain ⟨hl, hst⟩ := exec_recordsStand hwf hpo hc h
    rcases hr with ⟨i, rfl, rfl⟩ | ⟨rfl, rfl⟩
    · exact (hl i).2 hv
    · exact hst.2 hv
  · exact exec_flagSet hpo hc he h

/-! ### A hard lockout (R58, R59) -/

/-- Every elementary operation on a channel that a hard lockout holds leaves it held. -/
theorem Move.hardHeld {i : LpId} {s t : State} (h : Move s t) (hs : s.chans[i].HardHeld) : t.chans[i].HardHeld := by
  cases h
  case enter cause j st _ hh =>
    by_cases hj : i = j
    · subst hj
      refine ⟨?_, ?_⟩
      · rw [enterFor_chans, if_pos rfl]
        exact (entryFields_keeps s i cause st (s.chans[i].moved st)).2.2.2.2.1.trans hs.1
      · rw [enterFor_chans_self]
        exact hh hs
    · rwa [enterFor_chans, if_neg hj]
  case chan j c _ hst _ _ hh =>
    by_cases hj : i = j
    · subst hj
      rw [setChan_chans_self, Chan.HardHeld, hst]
      exact ⟨hh hs, hs.2⟩
    · rwa [setChan_chans, if_neg hj]
  case withdraw j =>
    have hc : (Machine.withdraw j s).chans[i] = if i = j then { s.chans[j] with entryQueued := false } else s.chans[i] :=
      setChan_chans _ j i _
    rw [hc]
    split
    · subst j
      exact hs
    · exact hs
  case post j a c _ _ =>
    have hc : (Machine.post j a c s).chans[i] = if i = j then { s.chans[j] with entryQueued := true } else s.chans[i] :=
      setChan_chans _ j i _
    rw [hc]
    split
    · subst j
      exact hs
    · exact hs
  all_goals exact hs

/-- Settles O51: while the loader has finished its commands do nothing, and every other command is a run of operations
that leave the channel held. -/
theorem hardLockoutStands : Obligations.HardLockoutStands := by
  intro c s t i hpo hd h hs
  refine exec_keeps (P := fun u => u.chans[i].HardHeld) (fun _ _ hm => hm.hardHeld) (fun hp => absurd hp hpo)
    (fun _ => hs) (fun _ _ _ _ _ hp => hp) (fun _ _ _ _ hp => hp) (fun _ hph => absurd hd hph)
    (fun _ hph => absurd hd hph) (fun q u _ hp => ?_) (fun u _ _ hp => ?_) hs h
  · rwa [rereadImage_chans]
  · refine restoreAll_keeps (P := fun u => u.chans[i].HardHeld) (fun _ _ hm => hm.hardHeld) fun _ => ?_
    rwa [State.withUnits_chans, restartBlocks_chans]

/-! ### ALERT and the top alert (R160, R161) -/

theorem mem_eventClasses (c : EventClass) : c ∈ eventClasses := by cases c <;> decide

/-- What the best of a walk over the first classes is: none of them set, or the first of the highest level. -/
def BestOf (s : State) (l : List EventClass) : Option (EventClass × Nat) → Prop
  | none => ∀ c ∈ l, s.flagSet c = false
  | some (c, n) => s.flagSet c = true ∧ n = s.classLevel c ∧ ∀ e ∈ l, s.flagSet e = true →
      s.classLevel e < s.classLevel c ∨ s.classLevel e = s.classLevel c ∧ c.index ≤ e.index

/-- One class later in the order. -/
theorem BestOf.step {s : State} {l : List EventClass} {b : Option (EventClass × Nat)} {e : EventClass}
    (h : BestOf s l b) (hlast : ∀ c n, b = some (c, n) → c.index ≤ e.index) : BestOf s (l ++ [e]) (topOf s b e) := by
  unfold topOf
  split
  · rename_i he
    split
    · refine ⟨he, rfl, fun x hx hset => ?_⟩
      rcases List.mem_append.mp hx with hx | hx
      · exact absurd hset (by simp [h x hx])
      · exact .inr (by rw [List.mem_singleton.mp hx]; exact ⟨rfl, le_refl _⟩)
    · rename_i c n
      obtain ⟨hc, rfl, hall⟩ := h
      split
      · rename_i hlt
        refine ⟨he, rfl, fun x hx hset => ?_⟩
        rcases List.mem_append.mp hx with hx | hx
        · rcases hall x hx hset with h' | h'
          · exact .inl (h'.trans hlt)
          · exact .inl (h'.1 ▸ hlt)
        · exact .inr (by rw [List.mem_singleton.mp hx]; exact ⟨rfl, le_refl _⟩)
      · rename_i hge
        refine ⟨hc, rfl, fun x hx hset => ?_⟩
        rcases List.mem_append.mp hx with hx | hx
        · exact hall x hx hset
        · rw [List.mem_singleton.mp hx]
          rcases Nat.lt_or_eq_of_le (Nat.le_of_not_lt hge) with hl | hl
          · exact .inl hl
          · exact .inr ⟨hl, hlast _ _ rfl⟩
  · rename_i he
    cases b with
    | none =>
      intro x hx
      rcases List.mem_append.mp hx with hx | hx
      · exact h x hx
      · rw [List.mem_singleton.mp hx]
        simpa using he
    | some b =>
      obtain ⟨hc, hn, hall⟩ := h
      refine ⟨hc, hn, fun x hx hset => ?_⟩
      rcases List.mem_append.mp hx with hx | hx
      · exact hall x hx hset
      · exact absurd hset (List.mem_singleton.mp hx ▸ he)

theorem topOf_mem {s : State} {b : Option (EventClass × Nat)} {e c : EventClass} {n : Nat}
    (h : topOf s b e = some (c, n)) : c = e ∨ ∃ m, b = some (c, m) := by
  unfold topOf at h
  split at h
  · split at h
    · exact .inl (by simpa using (congrArg (Option.map Prod.fst) h).symm)
    · split at h
      · exact .inl (by simpa using (congrArg (Option.map Prod.fst) h).symm)
      · exact .inr ⟨_, h⟩
  · exact .inr ⟨_, h⟩

/-- The walk over classes in class order keeps the best of those passed. -/
theorem bestOf_foldl (s : State) : ∀ (l front : List EventClass) (b : Option (EventClass × Nat)),
    BestOf s front b → (∀ c n, b = some (c, n) → c ∈ front) →
    (∀ c ∈ front, ∀ e ∈ l, c.index ≤ e.index) → (l.Pairwise fun a b => a.index ≤ b.index) →
    BestOf s (front ++ l) (l.foldl (topOf s) b)
  | [], front, b, h, _, _, _ => by simpa using h
  | e :: l, front, b, h, hmem, hle, hp => by
    obtain ⟨hel, hl⟩ := List.pairwise_cons.mp hp
    rw [List.append_cons]
    refine bestOf_foldl s l (front ++ [e]) (topOf s b e)
      (h.step fun c n hb => hle c (hmem c n hb) e List.mem_cons_self) (fun c n hb => ?_) (fun c hc x hx => ?_) hl
    · rcases topOf_mem hb with rfl | ⟨m, hm⟩
      · simp
      · exact List.mem_append_left _ (hmem c m hm)
    · rcases List.mem_append.mp hc with hc | hc
      · exact hle c hc x (List.mem_cons_of_mem _ hx)
      · exact List.mem_singleton.mp hc ▸ hel x hx

theorem topAlert_bestOf (s : State) : BestOf s eventClasses s.topAlert :=
  bestOf_foldl s eventClasses [] none (by simp [BestOf]) nofun nofun (by decide)

/-- Settles O50. -/
theorem alertAndTopAlert : Obligations.AlertAndTopAlert := by
  intro s
  have hbest := topAlert_bestOf s
  refine ⟨?_, ⟨fun h c => ?_, fun h => ?_⟩, fun c l h => ?_⟩
  · simp [State.alertAsserted, mem_eventClasses]
  · rw [h] at hbest
    exact hbest c (mem_eventClasses c)
  · cases hb : s.topAlert with
    | none => rfl
    | some b =>
      rw [hb] at hbest
      exact absurd hbest.1 (by simp [h])
  · rw [h] at hbest
    obtain ⟨hc, hl, hall⟩ := hbest
    exact ⟨hc, hl, fun e he => hall e (mem_eventClasses e) he⟩

/-! ### What the consequences of an event keep -/

/-- Settles O16, over the cascade and the releases that end it. -/
theorem consequencesKeep : Obligations.ConsequencesKeep := by
  intro s
  have hk : Keeps s (settle s) :=
    settle_induct (P := Keeps s) (fun t d h _ => h.trans (fire_keeps t d)) s (Keeps.refl s)
  have hf {α : Type} (read : State → α) (h : ∀ t d, read (fire t d) = read t) : read (settle s) = read s :=
    settle_induct (P := fun t => read t = read s) (fun t d ht _ => (h t d).trans ht) s rfl
  obtain ⟨hc, hl, hh, hsi, ha⟩ := hk.link
  exact ⟨hf State.loader fire_loader, hf State.station fire_station, hf State.config fire_config,
    hf State.lines fire_lines, hf State.peers fire_peers, hf State.pending fire_pending, hk.mode, hk.round, hk.faults,
    hc, hl, hh, hsi, ha, hk.units⟩

end Sys2Proof.Machine
end

section
/-! PROOFS, entering a channel state (R36, R37): the record, unit and surplus mark that an entry leaves, and the frame of
the entry. -/

namespace Sys2Proof.Machine

/-- Whether the control field says HANDSHAKE. -/
theorem LpBlock.isHandshake_iff {b : LpBlock} : b.isHandshake = true ↔ b.control = 0 := by simp [LpBlock.isHandshake]

/-- The record of a channel that has entered a state, field by field. -/
theorem enterFor_chan_eq (cause : Option StartCause) (i : LpId) (st : LpState) (s : State) :
    (enterFor cause i st s).chans[i] = { Chan.powerOn st s.chans[i].retry with
      recalls := s.chans[i].recalls
      autoOff := s.chans[i].autoOff
      lockout := s.chans[i].lockout
      stopT := if st = .stopRequested then .running ((if (s.block i).control = 0 then (s.block i).grantTimeout.toNat
        else (s.block i).feedbackTimeout.toNat) * 1000000) else .off
      coastT := if st = .coasting then .running ((s.block i).coastLimit.toNat * 1000000) else .off
      settleT := if st = .starting ∧ s.runPresent i = true then
        .running ((s.block i).startSettle.toNat * 1000000) else .off
      startT := if st = .starting ∧ s.runPresent i = false then
        .running ((s.block i).startTimeout.toNat * 1000000) else .off
      runOnT := if st = .stopPending ∧ s.isFollower i = true ∧ (s.block i).runOn ≠ 0 then
        .running ((s.block i).runOn.toNat * 1000000) else .off
      runOnDone := decide (st = .stopPending ∧ s.isFollower i = true ∧ (s.block i).runOn = 0)
      cause := if st = .startPending then cause else none
      watch := if s.chans[i].state.stopAsserted = st.stopAsserted then s.chans[i].watch
        else freshWatch s.chans[i].lockout s.lines[i].stoprb st.stopAsserted } := by
  rw [enterFor_chans, if_pos rfl]
  cases st
  case stopPending =>
    cases hf : s.isFollower i
    · simp [entryFields, hf, Chan.moved, Chan.powerOn]
    · by_cases hr : (s.block i).runOn = 0#16 <;>
        simp [entryFields, hf, hr, Chan.moved, Chan.powerOn, startAt, seconds]
  case starting =>
    cases hr : s.runPresent i <;> simp [entryFields, hr, Chan.moved, Chan.powerOn, startAt, seconds]
  all_goals simp [entryFields, Chan.moved, Chan.powerOn, startAt, seconds, LpBlock.isHandshake_iff]

/-- The watch that begins afresh runs from 200 ms, unless the lockout is hard, the read-back has no level, or it agrees
with the commanded one. -/
theorem freshWatch_eq (kind : LockoutKind) (readBack : Option Bool) (commanded : Bool) :
    freshWatch kind readBack commanded =
      if kind = .hard ∨ readBack = none ∨ readBack = some commanded then .off else .running 200000 := by
  cases kind <;> cases readBack <;> simp [freshWatch, startAt, millis]

/-- The unit of a channel that has entered a state: it is armed in IDLE_WATCH alone, and coasting in COASTING alone. -/
theorem follow_eq (u : ActUnit) (st : LpState) (rotation : Bool) (reload : Nat) :
    u.follow st rotation reload = { u with
      armed := decide (st = .idleWatch), coasting := decide (st = .coasting), runCount := 0
      idle := if st = .idleWatch then reload else u.idle
      expiryReported := u.expiryReported && decide (st ≠ .idleWatch)
      dirFlag := u.dirFlag && !(decide (st = .idleWatch) && rotation) } := by
  by_cases h : st = .idleWatch
  · subst h
    simp [ActUnit.follow]
  · simp [ActUnit.follow, h]

/-- An entry into a state changes the queue, the channels, the units and the surplus records alone. -/
theorem enterFor_eq (cause : Option StartCause) (i : LpId) (st : LpState) (s : State) :
    enterFor cause i st s =
      (((s.withRound (enterFor cause i st s).round).withChans (enterFor cause i st s).chans).withUnits
        (enterFor cause i st s).units).withProvs (enterFor cause i st s).provs := rfl

/-- Of these vectors it changes the entries of its own load point alone. -/
theorem enterFor_of_ne (cause : Option StartCause) {i j : LpId} (st : LpState) (s : State) (h : j ≠ i) :
    (enterFor cause i st s).chans[j] = s.chans[j] ∧ (enterFor cause i st s).units[j] = s.units[j] ∧
      (enterFor cause i st s).provs[j] = s.provs[j] := by
  rw [enterFor_chans, enterFor_units, enterFor_provs, if_neg h, if_neg h, if_neg h]
  exact ⟨rfl, rfl, rfl⟩

theorem enterFor_stopLine (cause : Option StartCause) (i : LpId) (st : LpState) (s : State) :
    (enterFor cause i st s).stopLine i = st.stopAsserted := by
  rw [State.stopLine, enterFor_chans_self]

/-- Settles O15. -/
theorem enteringAState : Obligations.EnteringAState := by
  intro cause i st s t b
  have hc : t.chans[i] = _ := enterFor_chan_eq cause i st s
  refine ⟨by rw [hc]; rfl, enterFor_stopLine cause i st s, by rw [hc]; rfl, by rw [hc], by rw [hc], by rw [hc],
    by rw [hc]; rfl, by rw [hc]; rfl, by rw [hc]; rfl, by rw [hc]; rfl, by rw [hc], by rw [hc], by rw [hc], by rw [hc],
    by rw [hc], by rw [hc], by rw [hc], ?_, ?_, rfl, ?_, fun j => enterFor_of_ne cause st s, enterFor_eq cause i st s⟩
  · rw [hc]
    simp only [freshWatch_eq]
    rfl
  · rw [enterFor_units, if_pos rfl, follow_eq]
    simp only [Bool.decide_and]
  · rw [enterFor_provs, if_pos rfl]
    simp only [decide_not]

end Sys2Proof.Machine
end

section
/-! PROOFS, the load points answering one after another (R62, R63, R113, R169): where each answers by what it holds
itself, the walk leaves at each what its own answer leaves. -/

namespace Sys2Proof.Machine

/-- What the state holds for one load point: its channel, its unit and its surplus record. -/
def State.parts (s : State) (i : LpId) : Chan × ActUnit × ProvBalance := (s.chans[i], s.units[i], s.provs[i])

theorem parts_eq_iff {s t : State} {i : LpId} : s.parts i = t.parts i ↔
    s.chans[i] = t.chans[i] ∧ s.units[i] = t.units[i] ∧ s.provs[i] = t.provs[i] := by
  simp only [State.parts, Prod.mk.injEq]

/-- Two states in which a load point finds the same: its parts, the configuration and the lines. -/
abbrev State.Alike (s t : State) (i : LpId) : Prop := t.config = s.config ∧ t.lines = s.lines ∧ t.parts i = s.parts i

/-- An entry into a state leaves the same in states alike. -/
theorem enterFor_alike (cause : Option StartCause) (st : LpState) {s t : State} {i : LpId} (h : s.Alike t i) :
    (enterFor cause i st t).parts i = (enterFor cause i st s).parts i := by
  obtain ⟨hc, hl, hp⟩ := h
  obtain ⟨hchan, hunit, hprov⟩ := parts_eq_iff.mp hp
  have hf : t.isFollower i = s.isFollower i := by simp only [State.isFollower, State.leader_congr hc]
  have hr : t.runPresent i = s.runPresent i := by simp only [State.runPresent, hl]
  have hm : t.unitMode i = s.unitMode i := by simp only [State.unitMode, State.block_congr hc, State.inUse_congr hc]
  have hi : t.reload i = s.reload i := by simp only [State.reload, State.block_congr hc, hm]
  rw [parts_eq_iff, enterFor_chan_eq, enterFor_chan_eq]
  simp only [enterFor_units, enterFor_provs, if_true, hchan, hunit, hprov, hl, State.block_congr hc, hf, hr, hm, hi,
    and_self]

/-- A change of a queue at the entries of one load point: each becomes what `edit` makes of it, or leaves. -/
def editAt (i : LpId) (edit : QueueEntry → Option QueueEntry) (q : QueueEntry) : Option QueueEntry :=
  if q.entry.lp = i then edit q else some q

/-- What is put in place of the round, the channels, the units and the surplus records does not see an earlier such
change. -/
theorem reframe {s t : State} {r r' : Round} {c c' : Vector Chan 8} {u u' : Vector ActUnit 8}
    {p p' : Vector ProvBalance 8} (h : t = (((s.withRound r).withChans c).withUnits u).withProvs p) :
    (((t.withRound r').withChans c').withUnits u').withProvs p' =
      (((s.withRound r').withChans c').withUnits u').withProvs p' := by
  rw [h]
  rfl

/-- One load point's answer: it changes its own parts, by what it finds there, and its own entries of the queue, as
`edit` gives; and it changes nothing else. -/
structure OwnAnswer (g : State → LpId → State) (edit : State → LpId → QueueEntry → Option QueueEntry) : Prop where
  frame : ∀ s i, g s i = (((s.withRound { s.round with
      queue := s.round.queue.filterMap (editAt i (edit s i)) }).withChans (g s i).chans).withUnits
      (g s i).units).withProvs (g s i).provs
  others : ∀ s i j, j ≠ i → (g s i).parts j = s.parts j
  own : ∀ {s t : State} {i}, s.Alike t i → (g t i).parts i = (g s i).parts i
  edit_alike : ∀ {s t : State} {i}, s.Alike t i → edit t i = edit s i
  edit_lp : ∀ {s i q q'}, edit s i q = some q' → q'.entry.lp = q.entry.lp

section
variable {g : State → LpId → State} {edit : State → LpId → QueueEntry → Option QueueEntry}

theorem OwnAnswer.round_eq (h : OwnAnswer g edit) (s : State) (i : LpId) :
    (g s i).round = { s.round with queue := s.round.queue.filterMap (editAt i (edit s i)) } := by
  rw [h.frame s i]
  rfl

/-- A change of the queue, the channels, the units and the surplus records hides an answer before it. -/
theorem OwnAnswer.reframed (h : OwnAnswer g edit) (s : State) (i : LpId) (q : List QueueEntry) (c : Vector Chan 8)
    (u : Vector ActUnit 8) (p : Vector ProvBalance 8) :
    ((((g s i).withRound { (g s i).round with queue := q }).withChans c).withUnits u).withProvs p =
      (((s.withRound { s.round with queue := q }).withChans c).withUnits u).withProvs p := by
  rw [reframe (h.frame s i), h.round_eq]

theorem OwnAnswer.alike (h : OwnAnswer g edit) (s : State) {i j : LpId} (hj : j ≠ i) : s.Alike (g s i) j :=
  ⟨by rw [h.frame s i]; rfl, by rw [h.frame s i]; rfl, h.others s i j hj⟩

/-- The queue after a walk: each entry of a load point that has answered is as that one's answer leaves it. -/
def walkedQueue (edit : State → LpId → QueueEntry → Option QueueEntry) (l : List LpId) (s : State)
    (q : QueueEntry) : Option QueueEntry := if q.entry.lp ∈ l then edit s q.entry.lp q else some q

theorem OwnAnswer.queue_cons (h : OwnAnswer g edit) {x : LpId} {xs : List LpId} (hx : x ∉ xs) (s : State)
    (q : QueueEntry) : (editAt x (edit s x) q).bind (walkedQueue edit xs (g s x)) = walkedQueue edit (x :: xs) s q := by
  by_cases hq : q.entry.lp = x
  · simp only [editAt, hq, walkedQueue, List.mem_cons, true_or, if_true]
    cases he : edit s x q with
    | none => rfl
    | some q' => simp [walkedQueue, h.edit_lp he, hq, hx]
  · simp only [editAt, hq, if_false, Option.bind_some, walkedQueue, List.mem_cons, false_or,
      h.edit_alike (h.alike s hq)]

/-- What a walk over distinct load points leaves. -/
theorem OwnAnswer.walk (h : OwnAnswer g edit) : ∀ (l : List LpId), l.Nodup → ∀ s : State,
    l.foldl g s = (((s.withRound { s.round with queue := s.round.queue.filterMap (walkedQueue edit l s) }).withChans
      (l.foldl g s).chans).withUnits (l.foldl g s).units).withProvs (l.foldl g s).provs ∧
    ∀ j, (l.foldl g s).parts j = if j ∈ l then (g s j).parts j else s.parts j
  | [], _, s => by
    have hq : walkedQueue edit [] s = some := by
      funext q
      simp [walkedQueue]
    simp only [List.foldl_nil, hq, List.filterMap_some, List.not_mem_nil, if_false, implies_true, and_true]
    rfl
  | x :: xs, hn, s => by
    obtain ⟨hx, hxs⟩ := List.nodup_cons.mp hn
    obtain ⟨hframe, hparts⟩ := h.walk xs hxs (g s x)
    refine ⟨?_, fun j => ?_⟩
    · have hq : (g s x).round.queue.filterMap (walkedQueue edit xs (g s x)) =
          s.round.queue.filterMap (walkedQueue edit (x :: xs) s) := by
        rw [h.round_eq, List.filterMap_filterMap]
        exact congrArg (List.filterMap · s.round.queue) (funext (h.queue_cons hx s))
      rw [List.foldl_cons, hframe, hq]
      exact h.reframed s x _ _ _ _
    · rw [List.foldl_cons, hparts]
      by_cases hj : j = x
      · subst hj
        simp [hx]
      · simp only [List.mem_cons, hj, false_or]
        split
        · exact h.own (h.alike s hj)
        · exact h.others s x j hj

end

theorem lpIds_nodup : lpIds.Nodup := by decide

/-- What the answers of all load points leave. -/
theorem OwnAnswer.walkAll {g : State → LpId → State} {edit : State → LpId → QueueEntry → Option QueueEntry}
    (h : OwnAnswer g edit) (s : State) :
    lpIds.foldl g s = (((s.withRound { s.round with
      queue := s.round.queue.filterMap fun q => edit s q.entry.lp q }).withChans (lpIds.foldl g s).chans).withUnits
      (lpIds.foldl g s).units).withProvs (lpIds.foldl g s).provs ∧
    ∀ j, (lpIds.foldl g s).parts j = (g s j).parts j := by
  obtain ⟨hframe, hparts⟩ := h.walk lpIds lpIds_nodup s
  have hq : walkedQueue edit lpIds s = fun q => edit s q.entry.lp q := by
    funext q
    simp [walkedQueue, mem_lpIds]
  refine ⟨hq ▸ hframe, fun j => ?_⟩
  rw [hparts, if_pos (mem_lpIds j)]

/-! ### The answers there are -/

/-- The queue as an answer that withdraws leaves it. -/
theorem filterMap_editAt_none (i : LpId) (q : List QueueEntry) :
    q.filterMap (editAt i fun _ => none) = dropQueued i q := by
  induction q with
  | nil => rfl
  | cons x xs ih => by_cases h : x.entry.lp = i <;> simpa [editAt, dropQueued, h] using ih

theorem filterMap_editAt_some (i : LpId) (q : List QueueEntry) : q.filterMap (editAt i some) = q := by
  have h : editAt i some = some := by
    funext x
    simp [editAt]
  rw [h, List.filterMap_some]

/-- No answer. -/
theorem OwnAnswer.none : OwnAnswer (fun s _ => s) (fun _ _ => some) where
  frame := fun s i => by
    rw [filterMap_editAt_some]
    rfl
  others := fun _ _ _ _ => rfl
  own := fun h => h.2.2
  edit_alike := fun _ => rfl
  edit_lp := fun h => by
    cases h
    rfl

/-- The load point enters a state. -/
theorem OwnAnswer.enter (cause : Option StartCause) (st : State → LpId → LpState)
    (ha : ∀ {s t : State} {i}, s.Alike t i → st t i = st s i) :
    OwnAnswer (fun s i => enterFor cause i (st s i) s) (fun _ _ _ => Option.none) where
  frame := fun s i => by
    rw [filterMap_editAt_none]
    rfl
  others := fun s i j hj => parts_eq_iff.mpr (enterFor_of_ne cause _ s hj)
  own := fun h => by
    rw [ha h]
    exact enterFor_alike cause _ h
  edit_alike := fun _ => rfl
  edit_lp := nofun

/-- The load point's channel changes its record. -/
theorem OwnAnswer.setChan (c : State → LpId → Chan) (ha : ∀ {s t : State} {i}, s.Alike t i → c t i = c s i) :
    OwnAnswer (fun s i => s.setChan i (c s i)) (fun _ _ => some) where
  frame := fun s i => by
    rw [filterMap_editAt_some]
    rfl
  others := fun s i j hj => parts_eq_iff.mpr ⟨by rw [setChan_chans, if_neg hj], rfl, rfl⟩
  own := fun {s t i} h => by
    obtain ⟨-, hu, hp⟩ := parts_eq_iff.mp h.2.2
    exact parts_eq_iff.mpr ⟨by rw [setChan_chans_self, setChan_chans_self, ha h], hu, hp⟩
  edit_alike := fun _ => rfl
  edit_lp := fun h => by
    cases h
    rfl

section
variable {g k : State → LpId → State} {edit edit' : State → LpId → QueueEntry → Option QueueEntry}

/-- One answer or another, by what the load point finds. -/
theorem OwnAnswer.ite (h : OwnAnswer g edit) (h' : OwnAnswer k edit') (p : State → LpId → Prop)
    [∀ s i, Decidable (p s i)] (ha : ∀ {s t : State} {i}, s.Alike t i → (p t i ↔ p s i)) :
    OwnAnswer (fun s i => if p s i then g s i else k s i) (fun s i => if p s i then edit s i else edit' s i) where
  frame := fun s i => by
    by_cases hp : p s i
    · simpa only [hp, if_true] using h.frame s i
    · simpa only [hp, if_false] using h'.frame s i
  others := fun s i j hj => by
    split
    · exact h.others s i j hj
    · exact h'.others s i j hj
  own := fun {s t i} hs => by
    simp only [ha hs]
    split
    · exact h.own hs
    · exact h'.own hs
  edit_alike := fun hs => by
    simp only [ha hs, h.edit_alike hs, h'.edit_alike hs]
  edit_lp := fun he => by
    split at he
    · exact h.edit_lp he
    · exact h'.edit_lp he

/-- One answer after another. -/
theorem OwnAnswer.comp (h : OwnAnswer g edit) (h' : OwnAnswer k edit') :
    OwnAnswer (fun s i => k (g s i) i) (fun s i q => (edit s i q).bind (edit' (g s i) i)) := by
  have alike {s t : State} {i : LpId} (hs : s.Alike t i) : (g s i).Alike (g t i) i := by
    refine ⟨?_, ?_, h.own hs⟩
    · rw [h.frame t i, h.frame s i]
      exact hs.1
    · rw [h.frame t i, h.frame s i]
      exact hs.2.1
  refine ⟨fun s i => ?_, fun s i j hj => (h'.others _ i j hj).trans (h.others s i j hj), fun hs => h'.own (alike hs),
    fun hs => ?_, fun {s i q q'} he => ?_⟩
  · have hq : (g s i).round.queue.filterMap (editAt i (edit' (g s i) i)) =
        s.round.queue.filterMap (editAt i fun q => (edit s i q).bind (edit' (g s i) i)) := by
      rw [h.round_eq, List.filterMap_filterMap]
      refine congrArg (List.filterMap · s.round.queue) (funext fun q => ?_)
      by_cases hq : q.entry.lp = i
      · simp only [editAt, hq, if_true]
        cases he : edit s i q with
        | none => rfl
        | some q' => simp [editAt, h.edit_lp he, hq]
      · simp [editAt, hq]
    rw [h'.frame, hq]
    exact h.reframed s i _ _ _ _
  · funext q
    rw [h.edit_alike hs, h'.edit_alike (alike hs)]
  · obtain ⟨x, hx, hx'⟩ := Option.bind_eq_some_iff.mp he
    exact (h'.edit_lp hx').trans (h.edit_lp hx)

end

/-- The same answer, with its edit of the queue written in another way. -/
theorem OwnAnswer.congr {g : State → LpId → State} {edit edit' : State → LpId → QueueEntry → Option QueueEntry}
    (h : OwnAnswer g edit) (he : ∀ s i q, edit s i q = edit' s i q) : OwnAnswer g edit' := by
  have : edit = edit' := funext fun s => funext fun i => funext fun q => he s i q
  exact this ▸ h

/-- The queue where each load point's entries leave or are changed in place. -/
theorem filterMap_ite_none {α : Type} (p : α → Prop) [DecidablePred p] (f : α → α) (l : List α) :
    l.filterMap (fun x => if p x then none else some (f x)) = (l.filter fun x => ¬p x).map f := by
  induction l with
  | nil => rfl
  | cons x xs ih => by_cases h : p x <;> simp [h, ih]

theorem filterMap_if_none {α : Type} (p : α → Prop) [DecidablePred p] (l : List α) :
    l.filterMap (fun x => if p x then none else some x) = l.filter fun x => ¬p x := by
  simpa using filterMap_ite_none p id l

/-- The parts a load point finds, seen through states alike. -/
theorem State.Alike.chan_eq {s t : State} {i : LpId} (h : s.Alike t i) : t.chans[i] = s.chans[i] :=
  (parts_eq_iff.mp h.2.2).1

end Sys2Proof.Machine
end

section
/-! PROOFS, the plant mode (R62, R63, R147): what each load point's answer to an entry into NIGHT, WAKE and DAY leaves. -/

namespace Sys2Proof.Machine

/-- A load point calls a WAKE start off as NIGHT begins. -/
abbrev State.CallsOff (s : State) (i : LpId) : Prop :=
  s.chans[i].state = .startPending ∧ s.chans[i].cause = some .wake

/-- The record of a channel in use as NIGHT begins. -/
def State.nightChan (s : State) (i : LpId) : Chan :=
  { s.chans[i] with retry := (s.block i).retries.toNat, autoOff := false }

theorem State.Alike.nightChan {s t : State} {i : LpId} (h : s.Alike t i) : t.nightChan i = s.nightChan i := by
  simp only [State.nightChan, h.chan_eq, State.block_congr h.1]

theorem ownAnswer_night : OwnAnswer nightAnswer fun s i q =>
    if s.inUse i = true ∧ s.CallsOff i then none else some q := by
  refine OwnAnswer.congr (OwnAnswer.ite
    (OwnAnswer.ite
      (OwnAnswer.comp (OwnAnswer.setChan State.nightChan State.Alike.nightChan)
        (OwnAnswer.enter none (fun _ _ => .stopped) fun _ => rfl))
      (OwnAnswer.setChan State.nightChan State.Alike.nightChan)
      State.CallsOff fun h => by rw [State.CallsOff, h.chan_eq])
    OwnAnswer.none (fun s i => s.inUse i = true) fun h => by rw [State.inUse_congr h.1]) fun s i q => ?_
  by_cases hu : s.inUse i = true <;> by_cases hc : s.CallsOff i
  · rw [if_pos hu, if_pos hc, if_pos ⟨hu, hc⟩]
    rfl
  · rw [if_pos hu, if_neg hc, if_neg fun h => hc h.2]
  all_goals rw [if_neg hu, if_neg fun h => hu h.1]

theorem ownAnswer_day : OwnAnswer dayAnswer fun s i q =>
    if s.inUse i = true ∧ s.chans[i].state = .excluded then none else some q := by
  refine OwnAnswer.congr (OwnAnswer.ite (OwnAnswer.enter none (fun _ _ => .running) fun _ => rfl) OwnAnswer.none
    (fun s i => (s.inUse i && s.chans[i].state == .excluded) = true)
    fun h => by rw [State.inUse_congr h.1, h.chan_eq]) fun s i q => ?_
  simp only [Bool.and_eq_true, beq_iff_eq]
  split <;> rfl

/-- A queued entry takes cause WAKE. -/
def QueueEntry.toWake (q : QueueEntry) : QueueEntry := { q with entry := { q.entry with cause := .wake } }

/-- A start that goes on as WAKE begins: its cause, and that of its queued entry. -/
theorem ownAnswer_toWake : OwnAnswer (fun s i =>
    (s.withRound { s.round with queue := s.round.queue.map (entryToWake i) }).setChan i
      { s.chans[i] with cause := some .wake }) fun _ _ q => some q.toWake where
  frame := fun s i => by
    have hq : s.round.queue.filterMap (editAt i fun q => some q.toWake) = s.round.queue.map (entryToWake i) := by
      rw [← List.filterMap_eq_map]
      refine congrArg (List.filterMap · s.round.queue) (funext fun q => ?_)
      by_cases h : q.entry.lp = i <;> simp [editAt, entryToWake, h, QueueEntry.toWake]
    rw [hq]
    rfl
  others := fun s i j hj => parts_eq_iff.mpr ⟨by rw [setChan_chans, if_neg hj]; rfl, rfl, rfl⟩
  own := fun {s t i} h => by
    obtain ⟨hc, hu, hp⟩ := parts_eq_iff.mp h.2.2
    exact parts_eq_iff.mpr ⟨by rw [setChan_chans_self, setChan_chans_self, hc], hu, hp⟩
  edit_alike := fun _ => rfl
  edit_lp := fun h => by
    cases h
    rfl

/-- A load point that WAKE releases. -/
abbrev State.WakeReleases (s : State) (i : LpId) : Prop :=
  s.chans[i].state = .idleWatch ∨ s.chans[i].state = .stopPending ∨ s.chans[i].state = .stopRequested

/-- The answer to WAKE by the state the channel is in. -/
theorem wakeAnswer_eq (s : State) (i : LpId) : wakeAnswer s i =
    if s.inUse i = true then
      if s.chans[i].state = .stopped then enterFor (some .wake) i .startPending s
      else if s.chans[i].state = .startPending then
        (s.withRound { s.round with queue := s.round.queue.map (entryToWake i) }).setChan i
          { s.chans[i] with cause := some .wake }
      else if s.WakeReleases i then enter i .running s else s
    else s := by
  unfold wakeAnswer
  split
  · split <;> simp_all [-Fin.getElem_fin]
  · rfl

/-- A load point that WAKE moves to another state. -/
abbrev State.WakeMoves (s : State) (i : LpId) : Prop :=
  s.inUse i = true ∧ (s.chans[i].state = .stopped ∨ s.chans[i].state = .idleWatch ∨ s.chans[i].state = .stopPending ∨
    s.chans[i].state = .stopRequested)

theorem ownAnswer_wake : OwnAnswer wakeAnswer fun s i q =>
    if s.WakeMoves i then none
    else some (if s.inUse i = true ∧ s.chans[i].state = .startPending then q.toWake else q) := by
  have h := OwnAnswer.ite
    (OwnAnswer.ite (OwnAnswer.enter (some .wake) (fun _ _ => .startPending) fun _ => rfl)
      (OwnAnswer.ite ownAnswer_toWake
        (OwnAnswer.ite (OwnAnswer.enter none (fun _ _ => .running) fun _ => rfl) OwnAnswer.none State.WakeReleases
          fun h => by rw [State.WakeReleases, h.chan_eq])
        (fun s i => s.chans[i].state = .startPending) fun h => by rw [h.chan_eq])
      (fun s i => s.chans[i].state = .stopped) fun h => by rw [h.chan_eq])
    OwnAnswer.none (fun s i => s.inUse i = true) fun h => by rw [State.inUse_congr h.1]
  have hw : wakeAnswer = _ := funext fun s => funext fun i => wakeAnswer_eq s i
  rw [hw]
  refine OwnAnswer.congr h fun s i q => ?_
  by_cases hu : s.inUse i = true
  swap
  · rw [if_neg hu, if_neg fun h : s.WakeMoves i => hu h.1, if_neg fun h => hu h.1]
  rw [if_pos hu]
  by_cases h1 : s.chans[i].state = .stopped
  · rw [if_pos h1, if_pos ⟨hu, .inl h1⟩]
  by_cases h2 : s.chans[i].state = .startPending
  · have hm : ¬s.WakeMoves i := by simp [State.WakeMoves, h2, -Fin.getElem_fin]
    rw [if_neg h1, if_pos h2, if_neg hm, if_pos ⟨hu, h2⟩]
  by_cases h3 : s.WakeReleases i
  · rw [if_neg h1, if_neg h2, if_pos h3, if_pos ⟨hu, .inr h3⟩]
  · rw [if_neg h1, if_neg h2, if_neg h3, if_neg fun h : s.WakeMoves i => h.2.elim h1 h3, if_neg fun h => h2 h.2]

/-- The state in which every load point answers the entry into a plant mode. -/
theorem enterMode_walk (m : PlantMode) (s : State) : ∃ (g : State → LpId → State)
    (edit : State → LpId → QueueEntry → Option QueueEntry), OwnAnswer g edit ∧
    (∀ t i, t.inUse i = false → g t i = t) ∧
    enterMode m s = lpIds.foldl g (s.withMode { s.mode with plant := m }) := by
  cases m
  · exact ⟨_, _, ownAnswer_day, fun t i h => by simp [dayAnswer, h], rfl⟩
  · exact ⟨_, _, ownAnswer_night, fun t i h => by simp [nightAnswer, h], rfl⟩
  · exact ⟨_, _, ownAnswer_wake, fun t i h => by simp [wakeAnswer, h], rfl⟩

/-- The mode of the plant is no part of what a load point answers by. -/
theorem alike_withMode (s : State) (m : ModeCtl) (i : LpId) : s.Alike (s.withMode m) i := ⟨rfl, rfl, rfl⟩

/-- What a walk from the entry into a plant mode leaves. -/
theorem OwnAnswer.walkMode {g : State → LpId → State} {edit : State → LpId → QueueEntry → Option QueueEntry}
    (h : OwnAnswer g edit) (m : PlantMode) (s : State) {u : State}
    (hu : u = lpIds.foldl g (s.withMode { s.mode with plant := m })) :
    u = ((((s.withMode { s.mode with plant := m }).withRound { s.round with queue := u.round.queue }).withChans
      u.chans).withUnits u.units).withProvs u.provs ∧
    u.round.queue = s.round.queue.filterMap (fun q => edit s q.entry.lp q) ∧
    ∀ j, u.parts j = (g s j).parts j := by
  obtain ⟨hframe, hparts⟩ := h.walkAll (s.withMode { s.mode with plant := m })
  have hedit : ∀ i, edit (s.withMode { s.mode with plant := m }) i = edit s i := fun i =>
    h.edit_alike (alike_withMode s _ i)
  rw [← hu] at hframe hparts
  simp only [hedit] at hframe
  have hq : u.round.queue = s.round.queue.filterMap (fun q => edit s q.entry.lp q) :=
    congrArg (fun x : State => x.round.queue) hframe
  refine ⟨?_, hq, fun j => (hparts j).trans (h.own (alike_withMode s _ j))⟩
  rw [hq]
  exact hframe

/-- Settles O18. -/
theorem plantModeEntries : Obligations.PlantModeEntries := by
  refine ⟨?_, ?_, ?_, ?_⟩
  · intro s m t
    obtain ⟨g, edit, hg, hunused, he⟩ := enterMode_walk m s
    obtain ⟨hframe, -, hparts⟩ := hg.walkMode m s he
    exact ⟨hframe, fun i hi => parts_eq_iff.mp ((hparts i).trans (by rw [hunused _ _ hi]))⟩
  · intro s t calledOff
    obtain ⟨-, hq, hparts⟩ := ownAnswer_night.walkMode .night s (u := t) rfl
    refine ⟨by rw [hq, filterMap_if_none], fun i hu => ⟨fun hc => ?_, fun hc => ?_⟩⟩
    · refine parts_eq_iff.mp ((hparts i).trans ?_)
      rw [nightAnswer, if_pos hu]
      dsimp only
      rw [if_pos hc.2]
    · have hc' : ¬s.CallsOff i := fun h => hc ⟨hu, h⟩
      obtain ⟨h1, h2, h3⟩ := parts_eq_iff.mp (hparts i)
      rw [nightAnswer, if_pos hu] at h1 h2 h3
      dsimp only at h1 h2 h3
      rw [if_neg hc'] at h1 h2 h3
      exact ⟨h1.trans (setChan_chans_self s i _), h2, h3⟩
  · intro s t moves
    obtain ⟨-, hq, hparts⟩ := ownAnswer_wake.walkMode .wake s (u := t) rfl
    refine ⟨by rw [hq, filterMap_ite_none]; rfl, fun i hu => ⟨fun hm => ?_, fun hm => ?_⟩⟩
    · refine parts_eq_iff.mp ((hparts i).trans ?_)
      rw [wakeAnswer_eq, if_pos hu]
      by_cases hst : s.chans[i].state = .stopped
      · rw [if_pos hst, if_pos hst]
      · have hrel : s.WakeReleases i := hm.2.resolve_left hst
        have hpend : s.chans[i].state ≠ .startPending := fun h => by simp [State.WakeReleases, h, -Fin.getElem_fin] at hrel
        rw [if_neg hst, if_neg hpend, if_pos hrel, if_neg hst]
    · obtain ⟨h1, h2, h3⟩ := parts_eq_iff.mp (hparts i)
      have hm' : s.chans[i].state ≠ .stopped ∧ ¬s.WakeReleases i :=
        ⟨fun h => hm ⟨hu, .inl h⟩, fun h => hm ⟨hu, .inr h⟩⟩
      rw [wakeAnswer_eq, if_pos hu, if_neg hm'.1, if_neg hm'.2] at h1 h2 h3
      split at h1 <;> rename_i hst
      · rw [if_pos hst] at h2 h3 ⊢
        exact ⟨h2, h3, h1.trans (setChan_chans_self _ i _)⟩
      · rw [if_neg hst] at h2 h3 ⊢
        exact ⟨h2, h3, h1⟩
  · intro s t
    obtain ⟨-, hq, hparts⟩ := ownAnswer_day.walkMode .day s (u := t) rfl
    refine ⟨by rw [hq, filterMap_if_none], fun i hu => ⟨fun hc => ?_, fun hc => ?_⟩⟩
    · refine parts_eq_iff.mp ((hparts i).trans ?_)
      simp [dayAnswer, hu, hc, -Fin.getElem_fin]
    · refine parts_eq_iff.mp ((hparts i).trans ?_)
      simp [dayAnswer, hc, -Fin.getElem_fin]

end Sys2Proof.Machine
end

section
/-! PROOFS, the consequences of an event (log entries 2 and 4): what holds where none is due, and what each of them
does. -/

namespace Sys2Proof.Machine

/-! ### Where no rule has a consequence -/

theorem quiet_takeBack {s : State} (h : Quiet s) (i : LpId) : takeBackDue s i = none :=
  anyLp_eq_none (quiet_rules h _ (by simp [dueRules])) i
theorem quiet_confirm {s : State} (h : Quiet s) (i : LpId) : confirmDue s i = none :=
  anyLp_eq_none (quiet_rules h _ (by simp [dueRules])) i
theorem quiet_call {s : State} (h : Quiet s) (i : LpId) : callDue s i = none :=
  anyLp_eq_none (quiet_rules h _ (by simp [dueRules])) i
theorem quiet_goIdle {s : State} (h : Quiet s) (i : LpId) : goIdleDue s i = none :=
  anyLp_eq_none (quiet_rules h _ (by simp [dueRules])) i
theorem quiet_runOn {s : State} (h : Quiet s) (i : LpId) : runOnDue s i = none :=
  anyLp_eq_none (quiet_rules h _ (by simp [dueRules])) i
theorem quiet_short {s : State} (h : Quiet s) (v : SvcId) : shortDue s v = none :=
  anySvc_eq_none (quiet_rules h _ (by simp [dueRules])) v
theorem quiet_surplus {s : State} (h : Quiet s) (i : LpId) : surplusDue s i = none :=
  anyLp_eq_none (quiet_rules h _ (by simp [dueRules])) i
theorem quiet_report {s : State} (h : Quiet s) (i : LpId) : reportDue s i = none :=
  anyLp_eq_none (quiet_rules h _ (by simp [dueRules])) i
theorem quiet_callOff {s : State} (h : Quiet s) (i : LpId) : callOffDue s i = none :=
  anyLp_eq_none (quiet_rules h _ (by simp [dueRules])) i
theorem quiet_bid {s : State} (h : Quiet s) (i : LpId) : bidDue s i = none :=
  anyLp_eq_none (quiet_rules h _ (by simp [dueRules])) i
theorem quiet_lead {s : State} (h : Quiet s) (i : LpId) : leadDue s i = none :=
  anyLp_eq_none (quiet_rules h _ (by simp [dueRules])) i
theorem quiet_post {s : State} (h : Quiet s) (i : LpId) : postDue s i = none :=
  anyLp_eq_none (quiet_rules h _ (by simp [dueRules])) i
theorem quiet_mode {s : State} (h : Quiet s) : modeDue s = none := quiet_rules h _ (by simp [dueRules])
theorem quiet_stagger {s : State} (h : Quiet s) : staggerDue s = none := quiet_rules h _ (by simp [dueRules])
theorem quiet_intent {s : State} (h : Quiet s) : intentDue s = none := quiet_rules h _ (by simp [dueRules])

theorem followersHeld_of_quiet {s : State} (h : Quiet s) : s.FollowersHeld := settle_of_quiet h ▸ settle_followersHeld s

theorem leaderIn_iff {s : State} {i : LpId} {st : LpState} :
    s.leaderIn i st = true ↔ ∃ l, s.leader i = some l ∧ s.chans[l].state = st := by
  unfold State.leaderIn
  split <;> simp_all [-Fin.getElem_fin]

theorem isProvider_inUse {s : State} {i : LpId} (h : s.isProvider i = true) : s.inUse i = true := by
  by_contra hn
  simp [State.isProvider, State.provided, hn] at h

theorem call_settled {s : State} (h : Quiet s) {i : LpId} (hl : s.leaderIn i .startPending = true) :
    s.chans[i].state ≠ .stopPending ∧ s.chans[i].state ≠ .stopRequested ∧ s.chans[i].state ≠ .stopped := by
  obtain ⟨l, hl, hst⟩ := leaderIn_iff.mp hl
  have hc := quiet_call h i
  simp only [callDue, hl, hst, if_true] at hc
  split at hc <;> simp_all [-Fin.getElem_fin]

theorem goIdle_settled {s : State} (h : Quiet s) {i : LpId} (hn : s.nightWork = true) (hu : s.inUse i = true)
    (hst : s.chans[i].state = .running) (hl : 1 ≤ s.level i) (hh : s.handPresent i = false) :
    s.isFollower i = true ∧ s.leaderIn i .stopped = false := by
  have hg := quiet_goIdle h i
  simp only [goIdleDue, hn, hu, hst, hl, hh] at hg
  cases hf : s.isFollower i <;> simp_all

theorem lead_settled {s : State} (h : Quiet s) {i : LpId} (hl : s.isLeader i = true)
    (hst : s.chans[i].state = .startPending) : s.leadHeld i = true ↔ s.chans[i].leadT ≠ .off := by
  have hd := quiet_lead h i
  simp only [leadDue, hl, hst] at hd
  cases hh : s.leadHeld i <;> simp_all [-Fin.getElem_fin]

theorem post_settled {s : State} (h : Quiet s) {i : LpId} (hu : s.inUse i = true) :
    (s.chans[i].state = .startPending → s.ready i = true → s.chans[i].entryQueued = true) ∧
    (s.chans[i].state = .stopPending → s.isProvider i = true → s.chans[i].surplusHeld = true →
      (s.isFollower i = true → s.chans[i].runOnDone = true) → s.chans[i].entryQueued = true) := by
  have hd := quiet_post h i
  simp only [postDue, hu, Bool.true_and] at hd
  cases hq : s.chans[i].entryQueued
  · rw [hq, Bool.not_false, if_pos rfl] at hd
    split at hd
    · cases hd
    · rename_i hstart
      split at hd
      · cases hd
      · rename_i hstop
        exact ⟨fun h1 h2 => absurd ⟨h1, h2⟩ hstart, fun h1 h2 h3 h4 => absurd ⟨h1, h2, h3, h4⟩ hstop⟩
  · exact ⟨fun _ _ => rfl, fun _ _ _ _ => rfl⟩

theorem bid_settled {s : State} (h : Quiet s) {i : LpId} (hd : s.deciding = true) (hu : s.inUse i = true)
    (hb : s.mode.plant = .wake ∨ s.ownShortInForce i = true) : s.chans[i].state ≠ .stopped := by
  intro hst
  have hb' := quiet_bid h i
  simp only [bidDue, hd, hu, hst] at hb'
  by_cases hw : s.mode.plant = .wake
  · simp [hw] at hb'
  · simp [hw, hb.resolve_left hw] at hb'

/-- Where no rule has a consequence the shortfall timers and marks stand as their conditions are. -/
theorem short_settled {s : State} (h : Quiet s) (v : SvcId) :
    (s.svcs[v].timer ≠ .off ↔ s.shortOf v = true ∧ s.shortWatched = true) ∧
      s.svcs[v].inForce = (s.svcs[v].confirmed && s.nightWork) := by
  have hd := quiet_short h v
  unfold shortDue at hd
  dsimp only at hd
  cases hs : s.shortOf v <;> cases hw : s.shortWatched <;> simp only [hs, hw] at hd <;>
    grind

theorem surplus_settled {s : State} (h : Quiet s) (i : LpId) :
    s.provs[i].timer ≠ .off ↔ s.assessing = true ∧ s.surplusOf i = true := by
  have hd := quiet_surplus h i
  unfold surplusDue at hd
  dsimp only at hd
  grind

theorem report_settled {s : State} (h : Quiet s) (i : LpId) :
    (s.provs[i].reported = true → s.provs[i].established = true ∧ s.chans[i].state = .stopPending) ∧
      (s.isProvider i = true → s.provs[i].established = true → s.chans[i].state = .stopPending →
        s.provs[i].reported = true) := by
  have hd := quiet_report h i
  unfold reportDue at hd
  dsimp only at hd
  grind

theorem mode_settled {s : State} (h : Quiet s) (hd : s.deciding = true) :
    (s.nightSignal = true → s.mode.plant = .night) ∧
      (s.nightSignal = false → s.mode.plant = .day ∨ s.mode.plant = .wake ∧ s.anyHeld = true) := by
  have hm := quiet_mode h
  simp only [modeDue, hd, if_true] at hm
  cases hp : s.mode.plant <;> cases hn : s.nightSignal <;> simp_all

theorem stagger_settled {s : State} (h : Quiet s) (hs : s.staggering = true) (hi : ∀ i : LpId, s.chans[i].state ≠ .starting)
    {q : QueueEntry} (hq : q ∈ s.round.queue) (ha : q.entry.action = .start) : s.round.committed q.serial = true := by
  have hd := quiet_stagger h
  have hn : (lpIds.any fun i => s.chans[i].state == .starting) = false := by simp [hi, -Fin.getElem_fin]
  simp only [staggerDue, hs, hn, Bool.not_false, Bool.and_self, if_true, Option.map_eq_none_iff,
    List.find?_eq_none] at hd
  simpa [ha] using hd q hq

/-! ### What each consequence does -/

theorem enterFor_recalls (cause : Option StartCause) (i : LpId) (st : LpState) (s : State) :
    (enterFor cause i st s).chans[i].recalls = s.chans[i].recalls := by rw [enterFor_chan_eq]

theorem takeBack_eq (i : LpId) (s : State) : takeBack i s =
    ((enter i .running s).withChans ((enter i .running s).chans.set i { (enter i .running s).chans[i] with
      recalls := min 255 (s.chans[i].recalls + 1) })).withFaults
      { s.faults with flags := s.faults.flags ||| EventClass.recalled.bit } := by
  rw [← enterFor_recalls none i .running s]
  rfl

/-- A withdrawal after a change of the channel's record. -/
theorem withdraw_setChan (i : LpId) (c : Chan) (s : State) : withdraw i (s.setChan i c) =
    (s.withRound { s.round with queue := s.round.queue.filter fun q => q.entry.lp != i }).withChans
      (s.chans.set i { c with entryQueued := false }) := by
  unfold withdraw
  rw [setChan_chans_self]
  simp [State.setChan, dropQueued]
  rfl

/-- What a post leaves: the entry, its number, and its place in the queue (R120). -/
theorem post_eq (i : LpId) (action : Action) (cause : Cause) (s : State) : ∃ front back,
    (s.round.queue.filter fun q => q.entry.lp != i) = front ++ back ∧
    (∀ x ∈ front, ¬(x.entry.level < s.level i ∨ x.entry.level = s.level i ∧ i < x.entry.lp)) ∧
    (∀ x, back.head? = some x → x.entry.level < s.level i ∨ x.entry.level = s.level i ∧ i < x.entry.lp) ∧
    post i action cause s = (s.withRound { s.round with
      queue := front ++ { serial := s.round.nextSerial, entry := s.ownEntry i action cause } :: back
      nextSerial := s.round.nextSerial + 1 }).withChans (s.chans.set i { s.chans[i] with entryQueued := true }) := by
  obtain ⟨front, back, hq, hi, hf, hb⟩ := insertQueued_split
    { serial := s.round.nextSerial, entry := s.ownEntry i action cause } (dropQueued i s.round.queue)
  have hbefore (x : QueueEntry) : queuedBefore (s.ownEntry i action cause) x.entry = true ↔
      x.entry.level < s.level i ∨ x.entry.level = s.level i ∧ i < x.entry.lp := by
    simp only [queuedBefore_iff, State.ownEntry, eq_comm (a := s.level i)]
  refine ⟨front, back, hq, fun x hx => (hbefore x).not.mp (hf x hx), fun x hx => (hbefore x).mp (hb x hx), ?_⟩
  unfold post
  rw [hi]
  rfl

/-- The load points that a shortfall report starts. -/
theorem ownAnswer_short (v : SvcId) : OwnAnswer (shortAnswer v) fun s i q =>
    if s.provided i = some v ∧ s.chans[i].state = .stopped then none else some q := by
  refine OwnAnswer.congr (OwnAnswer.ite (OwnAnswer.enter (some .shortfall) (fun _ _ => .startPending) fun _ => rfl)
    OwnAnswer.none (fun s i => (s.provided i == some v && s.chans[i].state == .stopped) = true)
    fun h => ?_) fun s i q => ?_
  · simp only [State.provided, State.inUse_congr h.1, State.block_congr h.1, h.chan_eq]
  · simp only [Bool.and_eq_true, beq_iff_eq]
    split <;> rfl

/-- A shortfall that goes into or out of force, with the providers in STOPPED that it starts (R113). -/
theorem setForce_eq (v : SvcId) (on : Bool) (s : State) {t : State} (ht : t = setForce v on s) :
    let answers (i : LpId) : Prop := on = true ∧ s.provided i = some v ∧ s.chans[i].state = .stopped
    t.svcs = s.svcs.set v { s.svcs[v] with inForce := on } ∧
    t.round = { s.round with queue := s.round.queue.filter fun q => ¬answers q.entry.lp } ∧
    t = ((((s.withSvcs t.svcs).withRound t.round).withChans t.chans).withUnits t.units).withProvs t.provs ∧
    ∀ i : LpId, t.parts i = if answers i then (enterFor (some .shortfall) i .startPending s).parts i else s.parts i := by
  intro answers
  cases on
  · subst ht
    have hq : s.round.queue.filter (fun q => ¬answers q.entry.lp) = s.round.queue := by simp [answers]
    refine ⟨rfl, by rw [hq]; rfl, rfl, fun i => ?_⟩
    rw [if_neg (by simp [answers])]
    rfl
  · obtain ⟨hframe, hparts⟩ := (ownAnswer_short v).walkAll (s.setSvc v { s.svcs[v] with inForce := true })
    have hs : setForce v true s = lpIds.foldl (shortAnswer v) (s.setSvc v { s.svcs[v] with inForce := true }) := by
      unfold setForce
      exact if_pos rfl
    rw [← hs, ← ht] at hframe hparts
    have hround := congrArg State.round hframe
    rw [filterMap_if_none] at hround
    have hq : s.round.queue.filter (fun q => ¬answers q.entry.lp) = s.round.queue.filter fun q =>
        ¬(s.provided q.entry.lp = some v ∧ s.chans[q.entry.lp].state = .stopped) := by simp [answers]
    refine ⟨congrArg State.svcs hframe, by rw [hq]; exact hround, ?_, fun i => ?_⟩
    · rw [hround, congrArg State.svcs hframe, ← filterMap_if_none]
      exact hframe
    · rw [hparts]
      unfold shortAnswer
      by_cases hc : s.provided i = some v ∧ s.chans[i].state = .stopped
      · rw [if_pos (by simpa [State.setSvc, -Fin.getElem_fin] using hc), if_pos ⟨rfl, hc⟩]
        exact enterFor_alike _ _ ⟨rfl, rfl, rfl⟩
      · rw [if_neg (by simpa [State.setSvc, -Fin.getElem_fin] using hc), if_neg fun h => hc h.2]
        rfl

/-- What the stagger grants: the entry, a START, starts its channel, or is withdrawn where that one waits no more. -/
theorem grantEntry_of_start {q : QueueEntry} (s : State) (ha : q.entry.action = .start) :
    (s.chans[q.entry.lp].state = .startPending → grantEntry q s = enter q.entry.lp .starting s) ∧
    (s.chans[q.entry.lp].state ≠ .startPending → grantEntry q s = withdraw q.entry.lp s) := by
  unfold grantEntry
  dsimp only
  rw [ha]
  constructor
  · intro h
    rw [h]
  · intro h
    split <;> simp_all [-Fin.getElem_fin]

/-- Settles O17. -/
theorem nothingDueMeansSettled : Obligations.NothingDueMeansSettled := by
  refine ⟨fun s h => ⟨settle_of_quiet h, followersHeld_of_quiet h, fun i => ⟨fun hu hst => ?_, fun hu => ?_,
    fun hn hu hst hl hh => goIdle_settled h hn hu hst hl hh, call_settled h, fun hf hp hst => ?_,
    fun hp hst hs hr => (post_settled h (isProvider_inUse hp)).2 hst hp hs hr, fun hu hst hc => ?_,
    lead_settled h, fun hu => (post_settled h hu).1, fun hd hp hu => bid_settled h hd hu (.inl hp),
    fun hd hu hf => bid_settled h hd hu (.inr hf)⟩⟩, fun s h => ⟨fun v => ⟨(short_settled h v).1, fun hs => ?_,
    (short_settled h v).2⟩, fun i => ⟨surplus_settled h i, report_settled h i⟩⟩,
    fun s h => ⟨fun hd => (mode_settled h hd).1, fun hd => (mode_settled h hd).2, ?_, fun hs hi q hq ha =>
    stagger_settled h hs hi hq ha⟩, fun s n => ⟨rfl, rfl, fun h => ⟨settleFor_of_quiet h n, ?_⟩⟩, ?_⟩
  · have hd := quiet_confirm h i
    simp only [confirmDue, hu, hst] at hd
    simpa using hd
  · simpa [takeBackDue, hu] using quiet_takeBack h i
  · have hd := quiet_runOn h i
    simp only [runOnDue, hf, hp, hst] at hd
    simpa using hd
  · have hd := quiet_callOff h i
    simp only [callOffDue, hu, hst, hc] at hd
    grind
  · simpa [State.shortOf] using hs
  · simpa [intentDue] using quiet_intent h
  · exact releaseFor_of_none (quiet_rules h _ (by simp [dueRules])) 8
  · intro s d hd t without withdrawn posted
    refine ⟨settleFor_succ_of_due hd, ?_⟩
    have hg := due_guard hd
    clear hd
    cases d <;> dsimp only [Due.Guard] at hg ⊢
    case takeBack i => exact ⟨hg.1, hg.2, takeBack_eq i s⟩
    case confirm i => exact ⟨hg.1, hg.2.1, hg.2.2, rfl⟩
    case release i st =>
      refine ⟨hg.1, rfl, ?_⟩
      have hr := hg.2
      generalize s.chans[i].state = x at hr ⊢
      cases x <;> cases hr <;> simp
    case call i cause =>
      obtain ⟨l, hl, hst, hi, hc⟩ := hg
      exact ⟨hi, rfl, l, hl, hst, hc⟩
    case callOut i =>
      obtain ⟨l, hl, hst, hi⟩ := hg
      exact ⟨leaderIn_iff.mpr ⟨l, hl, hst⟩, rfl, hi⟩
    case goIdle i st =>
      obtain ⟨hn, hu, hst, hl, hh, hf⟩ := hg
      exact ⟨hn, hu, hst, hl, hh, rfl, hf.symm.imp And.symm fun h => ⟨h.2.2, h.1, h.2.1⟩⟩
    case runOnStop i =>
      obtain ⟨hf, hp, hst, hr⟩ := hg
      exact ⟨hf, hp, hst, hr, rfl⟩
    case shortBegins v => exact ⟨hg.1, hg.2.1, hg.2.2, rfl⟩
    case shortCeases v => exact ⟨by simpa [imp_iff_not_or] using hg.1, rfl⟩
    case shortForce v on =>
      obtain ⟨hs, hw, -, hon, hne⟩ := hg
      obtain ⟨h1, h2, h3, h4⟩ := setForce_eq v on s (t := t) rfl
      refine ⟨hs, hw, hne, hon, h1, h2, h3, fun i => ⟨fun ha => ?_, fun ha => ?_⟩⟩ <;> rw [← parts_eq_iff, h4]
      · rw [if_pos ha]
      · rw [if_neg ha]
    case surplusBegins i => exact ⟨hg.1, hg.2.1, hg.2.2, rfl⟩
    case surplusCeases i => exact ⟨by simpa [imp_iff_not_or] using hg.1, rfl⟩
    case surplusReport i =>
      obtain ⟨hp, he, hr, hst⟩ := hg
      exact ⟨hp, he, hr, hst, rfl⟩
    case surplusEnds i =>
      refine ⟨hg.1, hg.2, fun h => ?_, fun h => ?_⟩
      · exact if_neg h
      · refine (if_pos h).trans ((withdraw_setChan i _ _).trans ?_)
        rfl
    case callOff i =>
      obtain ⟨hu, hst, hc, hs, hl⟩ := hg
      exact ⟨hu, hst, hc, hs, hl, rfl⟩
    case bid i cause =>
      obtain ⟨hd, hu, hst, hb⟩ := hg
      exact ⟨hd, hu, hst, rfl, hb.imp And.symm fun h => ⟨h.2.2, h.1, h.2.1⟩⟩
    case leadBegins i =>
      obtain ⟨hl, hst, hh, ht⟩ := hg
      exact ⟨hl, hst, hh, ht, rfl⟩
    case leadLost i =>
      obtain ⟨hl, hst, hh, ht⟩ := hg
      exact ⟨hl, hst, hh, ht, withdraw_setChan i _ s⟩
    case postStop i =>
      obtain ⟨-, hq, hst, hp, hs, hr⟩ := hg
      obtain ⟨front, back, h⟩ := post_eq i .stop .night s
      exact ⟨hp, hst, hs, hr, hq, _, front, back, rfl, h⟩
    case postStart i =>
      obtain ⟨hu, hq, hst, hr⟩ := hg
      refine ⟨hu, hst, hr, hq, fun hc => ?_, fun hc => ?_⟩
      · obtain ⟨front, back, h⟩ := post_eq i .start .wake s
        have ht : t = post i .start .wake s := by simp [t, fire, hc, StartCause.asCause, -Fin.getElem_fin]
        exact ⟨_, front, back, rfl, ht ▸ h⟩
      · obtain ⟨front, back, h⟩ := post_eq i .start .shortfall s
        have ht : t = post i .start .shortfall s := by simp [t, fire, hc, StartCause.asCause, -Fin.getElem_fin]
        exact ⟨_, front, back, rfl, ht ▸ h⟩
    case enters m => exact ⟨hg.1, rfl, by tauto⟩
    case stagger q =>
      obtain ⟨hs, hi, front, back, hq, ha, hc, hf⟩ := hg
      refine ⟨hs, hi, ⟨front, back, hq, ha, hc, hf⟩, (grantEntry_of_start s ha).1, fun hst => ?_⟩
      exact ((grantEntry_of_start s ha).2 hst).trans rfl
    case handIntent =>
      simp only [State.mayHandIntent, Bool.and_eq_true, Bool.or_eq_true, Bool.not_eq_true', beq_iff_eq,
        List.isEmpty_eq_false_iff, Option.isNone_iff_eq_none] at hg
      obtain ⟨⟨⟨⟨ha, hi⟩, hq⟩, hp⟩, ho⟩ := hg
      exact ⟨ha, hi, hq, hp, ho, s.intentFrame (s.round.queue.take 4), rfl, rfl, rfl⟩

end Sys2Proof.Machine
end

section
/-! PROOFS, the machine's answer to a stop (R44, R46, R50): in a state with nothing due it is the first consequence. -/

namespace Sys2Proof.Machine

/-- An entry into a state other than STARTING reads of the lines the read-back alone. -/
theorem enterFor_withLines (cause : Option StartCause) {i : LpId} {st : LpState} {s : State} {x : Vector Lines 8}
    (hst : st ≠ .starting) (hx : x[i].stoprb = s.lines[i].stoprb) :
    enterFor cause i st (s.withLines x) = (enterFor cause i st s).withLines x := by
  have hf : entryFields (s.withLines x) i cause st (s.chans[i].moved st) =
      entryFields s i cause st (s.chans[i].moved st) := by
    cases st
    case starting => exact absurd rfl hst
    all_goals rfl
  unfold enterFor
  dsimp only [State.withLines_chans, State.withLines_lines]
  rw [hf, hx]
  rfl

/-- Where a rule names one load point alone, it calls for the consequence at that one. -/
theorem anyLp_of_only {f : State → LpId → Option Due} {s : State} {i : LpId} (h : ∀ j, j ≠ i → f s j = none) :
    anyLp f s = f s i := by
  cases ha : anyLp f s with
  | none => exact (anyLp_eq_none ha i).symm
  | some d =>
    obtain ⟨j, hj⟩ := anyLp_eq_some ha
    by_cases hji : j = i
    · rw [← hji, hj]
    · rw [h j hji] at hj
      cases hj

theorem recalled_setLines_ne {s : State} {i j : LpId} (x : Lines) (h : j ≠ i) :
    (s.setLines i x).recalled j = s.recalled j := by
  simp only [State.recalled, State.grantPresent, State.runPresent, setLines_lines, if_neg h]
  rfl

theorem stopConfirmed_setLines_ne {s : State} {i j : LpId} (x : Lines) (h : j ≠ i) :
    (s.setLines i x).stopConfirmed j = s.stopConfirmed j := by
  simp only [State.stopConfirmed, State.grantPresent, State.runPresent, setLines_lines, if_neg h]
  rfl

/-- A recall that the lines of one load point bring about is taken first of all. -/
theorem settle_of_recall {s : State} {i : LpId} (x : Lines) (hq : Quiet s) (hu : s.inUse i = true)
    (hr : (s.setLines i x).recalled i = true) : settle (s.setLines i x) =
      releaseAll (settleFor (Config.cascadeBound - 1) (takeBack i (s.setLines i x))) := by
  refine settle_of_due (d := .takeBack i) ?_
  have h : anyLp takeBackDue (s.setLines i x) = some (.takeBack i) := by
    rw [anyLp_of_only (i := i) fun j hj => ?_]
    · exact if_pos (by rw [hr, Bool.and_true]; exact hu)
    · have hn := quiet_takeBack hq j
      unfold takeBackDue at hn ⊢
      rw [recalled_setLines_ne x hj]
      exact hn
  simp only [due, dueRules, List.findSome?_cons, h]

/-- A confirmed stop that the lines of one load point bring about is taken first of all. -/
theorem settle_of_confirm {s : State} {i : LpId} (x : Lines) (hq : Quiet s) (hu : s.inUse i = true)
    (hst : s.chans[i].state = .stopRequested) (hc : (s.setLines i x).stopConfirmed i = true) :
    settle (s.setLines i x) = releaseAll (settleFor (Config.cascadeBound - 1) (confirmStop i (s.setLines i x))) := by
  have hst' : (s.setLines i x).chans[i].state = .stopRequested := hst
  refine settle_of_due (d := .confirm i) ?_
  have ht : anyLp takeBackDue (s.setLines i x) = none := by
    rw [anyLp_of_only (i := i) fun j hj => ?_]
    · refine if_neg ?_
      simp [State.recalled, hst', -Fin.getElem_fin]
    · have hn := quiet_takeBack hq j
      unfold takeBackDue at hn ⊢
      rw [recalled_setLines_ne x hj]
      exact hn
  have h : anyLp confirmDue (s.setLines i x) = some (.confirm i) := by
    rw [anyLp_of_only (i := i) fun j hj => ?_]
    · refine if_pos ?_
      rw [hst', hc, show (s.setLines i x).inUse i = true from hu]
      rfl
    · have hn := quiet_confirm hq j
      unfold confirmDue at hn ⊢
      rw [stopConfirmed_setLines_ne x hj]
      exact hn
  simp only [due, dueRules, List.findSome?_cons, ht, h]

/-- The state that a confirmed stop leads to. -/
theorem confirmStop_withLines {s : State} {i : LpId} {x : Lines} (hx : x.stoprb = s.lines[i].stoprb) :
    confirmStop i (s.setLines i x) = (confirmStop i s).withLines (s.lines.set i x) := by
  refine enterFor_withLines none ?_ ?_
  · split <;> nofun
  · rw [get_set_lp, if_pos rfl, hx]

theorem takeBack_withLines {s : State} {i : LpId} {x : Lines} (hx : x.stoprb = s.lines[i].stoprb) :
    takeBack i (s.setLines i x) = (takeBack i s).withLines (s.lines.set i x) := by
  have he : enter i .running (s.setLines i x) = (enter i .running s).withLines (s.lines.set i x) :=
    enterFor_withLines none nofun (by rw [get_set_lp, if_pos rfl, hx])
  unfold takeBack
  rw [he]
  rfl

theorem stopConfirmed_handshake {s : State} {i : LpId} (h : (s.block i).control = 0) :
    s.stopConfirmed i = s.grantPresent i := if_pos (LpBlock.isHandshake_iff.mpr h)

theorem stopConfirmed_direct {s : State} {i : LpId} (h : (s.block i).control ≠ 0) :
    s.stopConfirmed i = !s.runPresent i := if_neg (LpBlock.isHandshake_iff.not.mpr h)

theorem recalled_handshake {s : State} {i : LpId} (h : (s.block i).control = 0) :
    s.recalled i = (s.chans[i].state == .stopped && !s.grantPresent i) := if_pos (LpBlock.isHandshake_iff.mpr h)

theorem recalled_direct {s : State} {i : LpId} (h : (s.block i).control ≠ 0) : s.recalled i =
    ((s.chans[i].state == .coasting || s.chans[i].state == .stopped || s.chans[i].state == .startPending) &&
      s.runPresent i) := if_neg (LpBlock.isHandshake_iff.not.mpr h)

theorem setLines_runPresent_self (s : State) (i : LpId) (x : Lines) : (s.setLines i x).runPresent i = x.run.getD false := by
  rw [State.runPresent, setLines_lines, if_pos rfl]

theorem setLines_grantPresent_self (s : State) (i : LpId) (x : Lines) :
    (s.setLines i x).grantPresent i = x.grant.getD false := by
  rw [State.grantPresent, setLines_lines, if_pos rfl]

theorem exec_grantRise {s : State} {i : LpId} (hl : s.loaded = true) (hg : s.grantPresent i = false) :
    exec (.grantRise i) s = .next (settle (s.setLines i { s.lines[i] with grant := some true })) :=
  congrArg Host.Outcome.next (if_pos (by rw [hl, hg]; rfl))

theorem exec_grantDrop {s : State} {i : LpId} (hl : s.loaded = true) (hg : s.grantPresent i = true) :
    exec (.grantDrop i) s = .next (settle (s.setLines i { s.lines[i] with grant := some false })) :=
  congrArg Host.Outcome.next (if_pos (by rw [hl, hg]; rfl))

theorem exec_runRise {s : State} {i : LpId} (hl : s.loaded = true) (hr : s.runPresent i = false) :
    exec (.runRise i) s = .next (runRises i s) := congrArg Host.Outcome.next (if_pos (by rw [hl, hr]; rfl))

theorem exec_runDrop {s : State} {i : LpId} (hl : s.loaded = true) (hr : s.runPresent i = true) :
    exec (.runDrop i) s = .next (runDrops i s) := congrArg Host.Outcome.next (if_pos (by rw [hl, hr]; rfl))

theorem runRises_of_ne {s : State} {i : LpId} (h : s.chans[i].state ≠ .starting) :
    runRises i s = settle (s.setLines i { s.lines[i] with run := some true }) := congrArg settle (if_neg h)

theorem runDrops_of_ne {s : State} {i : LpId} (h : s.chans[i].state ≠ .starting) :
    runDrops i s = settle (s.setLines i { s.lines[i] with run := some false }) := congrArg settle (if_neg h)

/-- The record of a channel that a recall has taken back. -/
theorem takeBack_chan (s : State) (i : LpId) : (takeBack i s).chans[i] =
    { (enter i .running s).chans[i] with recalls := min 255 (s.chans[i].recalls + 1) } := by
  rw [takeBack_eq, State.withFaults_chans, State.withChans_chans, get_set_lp, if_pos rfl]

/-- Settles O20. -/
theorem machineAnswersTheStop : Obligations.MachineAnswersTheStop := by
  refine ⟨fun i s hl hq hu hst => ⟨confirmStop i s, fun hc hg => ?_, fun hc hr => ?_, ?_, rfl, fun j hj => ?_, ?_, ?_, ?_⟩,
    fun i s hl hq hu => ⟨takeBack i s, fun hc hst hg => ?_, fun hc hst hr => ?_, ?_, ?_, ?_, ?_, ?_, ?_, rfl,
    fun j hj => ?_⟩⟩
  · have hx : (s.setLines i { s.lines[i] with grant := some true }).stopConfirmed i = true := by
      rw [stopConfirmed_handshake (by exact hc), setLines_grantPresent_self]
      rfl
    rw [exec_grantRise hl hg, settle_of_confirm _ hq hu hst hx]
    exact congrArg (fun u => Host.Outcome.next (releaseAll (settleFor _ u))) (confirmStop_withLines rfl)
  · have hx : (s.setLines i { s.lines[i] with run := some false }).stopConfirmed i = true := by
      rw [stopConfirmed_direct (by exact hc), setLines_runPresent_self]
      rfl
    rw [exec_runDrop hl hr, runDrops_of_ne (by rw [hst]; nofun), settle_of_confirm _ hq hu hst hx]
    exact congrArg (fun u => Host.Outcome.next (releaseAll (settleFor _ u))) (confirmStop_withLines rfl)
  · exact enterFor_chans_self s none i _
  · obtain ⟨hchan, hunit, -⟩ := enterFor_of_ne none (if s.unitMode i = .rotation then .coasting else .stopped) s hj
    exact ⟨hchan, hunit⟩
  · rw [confirmStop, enter, enterFor_chan_eq]
    split <;> rfl
  · rw [confirmStop, enter, enterFor_chan_eq]
    rfl
  · rw [confirmStop, enter, enterFor_stopLine]
    split <;> rfl
  · have hx : (s.setLines i { s.lines[i] with grant := some false }).recalled i = true := by
      rw [recalled_handshake (by exact hc), setLines_grantPresent_self, show (s.setLines i _).chans[i].state = _ from hst]
      rfl
    rw [exec_grantDrop hl hg, settle_of_recall _ hq hu hx]
    exact congrArg (fun u => Host.Outcome.next (releaseAll (settleFor _ u))) (takeBack_withLines rfl)
  · have hx : (s.setLines i { s.lines[i] with run := some true }).recalled i = true := by
      rw [recalled_direct (by exact hc), setLines_runPresent_self]
      simpa [State.setLines, or_assoc, -Fin.getElem_fin] using hst
    have hne : s.chans[i].state ≠ .starting := by rcases hst with h | h | h <;> rw [h] <;> nofun
    rw [exec_runRise hl hr, runRises_of_ne hne, settle_of_recall _ hq hu hx]
    exact congrArg (fun u => Host.Outcome.next (releaseAll (settleFor _ u))) (takeBack_withLines rfl)
  · rw [takeBack_chan, enter, enterFor_chan_eq]
    rfl
  · rw [State.stopLine, takeBack_chan, enter, enterFor_chan_eq]
    rfl
  · rw [takeBack_chan, enter, enterFor_chan_eq]
    rfl
  · rw [takeBack_chan, enter, enterFor_chan_eq]
    rfl
  · rw [takeBack_chan]
  · rw [takeBack_chan, enter, enterFor_chan_eq]
    rfl
  · obtain ⟨hchan, hunit, -⟩ := enterFor_of_ne none .running s hj
    refine ⟨?_, hunit⟩
    rw [takeBack_eq, State.withFaults_chans, State.withChans_chans, get_set_lp, if_neg hj]
    exact hchan

end Sys2Proof.Machine
end

section
/-! PROOFS, the activity counters (chapter 2): edges, samples and the idle timer. -/

namespace Sys2Proof.Machine

/-! ### Reports of activity -/

/-- A report of activity that comes with a change of the unit. -/
theorem reportActivity_setUnit (i : LpId) (v : ActUnit) (s : State) : reportActivity i (s.setUnit i v) =
    (let u := s.withUnits (s.units.set i { v with
        idle := if v.armed then s.reload i else v.idle, expiryReported := !v.armed && v.expiryReported })
      if s.chans[i].state = .stopPending ∧ s.isFollower i = false then settle (enter i .idleWatch u) else u) := by
  rw [reportActivity_eq]
  have hu : (s.setUnit i v).units[i] = v := by rw [setUnit_units, if_pos rfl]
  rw [hu]
  simp only [State.setUnit, State.withUnits_units, Vector.set_set, State.withUnits_withUnits, State.withUnits_reload,
    State.withUnits_chans, State.withUnits_isFollower]

/-! ### Edges of a STROKE and of a LOAD_LEVEL unit (R20, R21) -/

theorem edgeSelected_of_selected {edge : Byte} {high : Bool}
    (h : edge = 0 ∧ high = true ∨ edge = 1 ∧ high = false ∨ edge = 2) : edgeSelected edge high = true := by
  rcases h with ⟨rfl, rfl⟩ | ⟨rfl, rfl⟩ | rfl <;> simp [edgeSelected]

theorem edgeSelected_of_other {edge : Byte} {high : Bool} (h : edge = 0 ∧ high = false ∨ edge = 1 ∧ high = true) :
    edgeSelected edge high = false := by
  rcases h with ⟨rfl, rfl⟩ | ⟨rfl, rfl⟩ <;> simp [edgeSelected]

/-- Settles O10. -/
theorem strokeEdgesCount : Obligations.StrokeEdgesCount := by
  intro i high l s hload hmode hline hne
  have he : exec (.strokeEdge i high) s = .next (countStroke i high (setAct i high s)) :=
    congrArg Host.Outcome.next (actEdge_of_change _ hload hline hne (by rw [hmode]; nofun) (by rw [hmode]; simp))
  refine ⟨fun hsel => ?_, fun hother => ?_⟩
  · have hcount : countStroke i high (setAct i high s) = reportActivity i ((setAct i high s).setUnit i
        { s.units[i] with count := s.units[i].count + 1 }) := if_pos (edgeSelected_of_selected hsel)
    rw [reportActivity_setUnit] at hcount
    refine ⟨(setAct i high s).withUnits _, rfl, rfl, rfl, fun h => ?_, fun hst hf => ?_⟩ <;> rw [he, hcount]
    · exact congrArg _ (if_neg fun hc => h.elim (· hc.1) fun hf => by rw [show s.isFollower i = false from hc.2] at hf; cases hf)
    · exact congrArg _ (if_pos ⟨hst, hf⟩)
  · rw [he]
    exact congrArg _ (if_neg (by rw [show (setAct i high s).block i = s.block i from rfl,
      edgeSelected_of_other hother]; exact Bool.false_ne_true))

theorem loadedReading_eq (polarity : Byte) (high : Bool) :
    loadedReading polarity high = if polarity = 1 then !high else high := by
  by_cases h : polarity = 1 <;> simp [loadedReading, h]

/-- Settles O11. -/
theorem loadLevelChangesCount : Obligations.LoadLevelChangesCount := by
  intro i high l s hload hmode hline hne
  have he : exec (.loadLevelChange i high) s = .next (changeLoad i high (setAct i high s)) :=
    congrArg Host.Outcome.next (actEdge_of_change _ hload hline hne (by rw [hmode]; nofun) (by rw [hmode]; simp))
  rw [← loadedReading_eq]
  refine ⟨fun hnow hold => ?_, fun hnow => ?_⟩
  · have hchange : changeLoad i high (setAct i high s) = reportActivity i ((setAct i high s).setUnit i
        { s.units[i] with loaded := some true, count := s.units[i].count + 1 }) := if_pos ⟨hnow, hold⟩
    rw [reportActivity_setUnit] at hchange
    refine ⟨(setAct i high s).withUnits _, rfl, rfl, rfl, fun h => ?_, fun hst hf => ?_⟩ <;> rw [he, hchange]
    · exact congrArg _ (if_neg fun hc => h.elim (· hc.1) fun hf => by rw [show s.isFollower i = false from hc.2] at hf; cases hf)
    · exact congrArg _ (if_pos ⟨hst, hf⟩)
  · rw [he]
    have hb : loadedReading ((setAct i high s).block i).loadPolarity high = false := hnow
    unfold changeLoad
    dsimp only
    rw [hb, if_neg fun h => Bool.false_ne_true h.1]
    rfl

/-! ### Samples (R24 to R27) -/

theorem signOf_eq (d : BitVec 16) : signOf d = if d.toInt < 0 then .minus else .plus := by
  simp only [signOf, BitVec.msb_eq_toInt, decide_eq_true_eq]

/-- A sample changes direction when it is not zero and opposite to the last sign. -/
theorem changesDirection_iff (u : ActUnit) (d : BitVec 16) : changesDirection u d = true ↔
    d ≠ 0 ∧ (u.lastSign = some .plus ∧ d.toInt < 0 ∨ u.lastSign = some .minus ∧ 0 < d.toInt) := by
  have hz : d ≠ 0 ↔ d.toInt ≠ 0 := by
    rw [ne_eq, ← BitVec.toInt_inj]
    rfl
  simp only [changesDirection, signOf_eq, Bool.and_eq_true, bne_iff_ne]
  cases hs : u.lastSign with
  | none => simp
  | some g =>
    rw [hz]
    cases g <;> by_cases hd : d.toInt < 0 <;> simp [hd] <;> omega

/-- What a sample stores. -/
theorem sampled_eq (u : ActUnit) (d : BitVec 16) : u.sampled d = { u with
    lastDelta := d, lastPosition := u.count
    lastSign := if d = 0 then u.lastSign else if d.toInt < 0 then some .minus else some .plus } := by
  simp only [ActUnit.sampled, signOf_eq]
  split
  · rfl
  · split <;> rfl

/-- The unit after a sample while not coasting, activity apart. -/
def ActUnit.movingSample (u : ActUnit) (d : BitVec 16) : ActUnit :=
  if changesDirection u d then
    { u.sampled d with dirFlag := true, dirCount := satSucc 255 (u.sampled d).dirCount }
  else u.sampled d

/-- A sample while not coasting is activity. -/
abbrev State.sampleActive (s : State) (i : LpId) (d : BitVec 16) : Prop :=
  changesDirection s.units[i] d = true ∨ (s.block i).standstillThreshold.toNat < magnitude d

theorem sampleMoving_eq (i : LpId) (d : BitVec 16) (s : State) : sampleMoving i d s =
    if s.sampleActive i d then reportActivity i (s.setUnit i (s.units[i].movingSample d))
    else s.setUnit i (s.units[i].movingSample d) := rfl

/-- The state a sample while not coasting leaves, before what the channel makes of activity. -/
def State.movingSampled (s : State) (i : LpId) (d : BitVec 16) : State :=
  let v := s.units[i].movingSample d
  s.withUnits (s.units.set i { v with
    idle := if s.sampleActive i d ∧ v.armed then s.reload i else v.idle
    expiryReported := !(decide (s.sampleActive i d) && v.armed) && v.expiryReported })

theorem sampleMoving_cases (i : LpId) (d : BitVec 16) (s : State) : sampleMoving i d s =
    if s.sampleActive i d ∧ s.chans[i].state = .stopPending ∧ s.isFollower i = false then
      settle (enter i .idleWatch (s.movingSampled i d)) else s.movingSampled i d := by
  rw [sampleMoving_eq]
  by_cases ha : s.sampleActive i d
  · rw [if_pos ha, reportActivity_setUnit]
    simp only [State.movingSampled, ha, true_and, decide_true, Bool.true_and]
  · rw [if_neg ha, if_neg fun h => ha h.1]
    simp only [State.movingSampled, ha, false_and, if_false, decide_false, Bool.false_and, Bool.not_false,
      Bool.true_and]
    rfl

theorem movingSampled_unit (s : State) (i : LpId) (d : BitVec 16) : (s.movingSampled i d).units[i] =
    { s.units[i].movingSample d with
      idle := if s.sampleActive i d ∧ (s.units[i].movingSample d).armed then s.reload i
        else (s.units[i].movingSample d).idle
      expiryReported := !(decide (s.sampleActive i d) && (s.units[i].movingSample d).armed) &&
        (s.units[i].movingSample d).expiryReported } := by
  rw [State.movingSampled, State.withUnits_units, get_set_lp, if_pos rfl]

theorem movingSampled_unit_ne (s : State) {i j : LpId} (d : BitVec 16) (h : j ≠ i) :
    (s.movingSampled i d).units[j] = s.units[j] := by
  rw [State.movingSampled, State.withUnits_units, get_set_lp, if_neg h]

/-- The direction change of a sample, in the fields it touches. -/
theorem movingSample_eq (u : ActUnit) (d : BitVec 16) : u.movingSample d = { u.sampled d with
    dirFlag := changesDirection u d || u.dirFlag
    dirCount := if changesDirection u d then satSucc 255 u.dirCount else u.dirCount } := by
  unfold ActUnit.movingSample
  cases changesDirection u d <;> rfl

/-- A sample while coasting leaves the state a sample of the run count leaves, before standstill. -/
def State.coastSampled (s : State) (i : LpId) (d : BitVec 16) : State :=
  s.setUnit i { s.units[i].sampled d with
    runCount := stillRun (s.block i).standstillThreshold.toNat (s.block i).standstillSamples.toNat
      s.units[i].runCount d }

theorem sampleCoasting_cases (i : LpId) (d : BitVec 16) (s : State) : sampleCoasting i d s =
    if stillRun (s.block i).standstillThreshold.toNat (s.block i).standstillSamples.toNat s.units[i].runCount d =
          (s.block i).standstillSamples.toNat ∧
        s.units[i].runCount < (s.block i).standstillSamples.toNat ∧ s.chans[i].state = .coasting then
      settle (enter i .stopped (s.coastSampled i d)) else s.coastSampled i d := by
  unfold sampleCoasting
  dsimp only
  split
  case isTrue h =>
    obtain ⟨hrun, hlt⟩ := h
    by_cases hst : s.chans[i].state = .coasting
    · exact (if_pos hst).trans (if_pos ⟨hrun, hrun ▸ hlt, hst⟩).symm
    · exact (if_neg hst).trans (if_neg fun h => hst h.2.2).symm
  case isFalse h =>
    refine (if_neg ?_).symm
    rintro ⟨hrun, hlt, -⟩
    exact h ⟨hrun, hrun.symm ▸ hlt⟩

theorem exec_sample_moving {i : LpId} {s : State} (hm : s.unitMode i = .rotation) (hc : s.units[i].coasting = false) :
    exec (.rotationSample i) s = .next (sampleMoving i (s.units[i].count - s.units[i].lastPosition) s) := by
  refine congrArg Host.Outcome.next ((if_pos hm).trans (if_neg ?_))
  rw [hc]
  exact Bool.false_ne_true

theorem exec_sample_coasting {i : LpId} {s : State} (hm : s.unitMode i = .rotation) (hc : s.units[i].coasting = true) :
    exec (.rotationSample i) s = .next (sampleCoasting i (s.units[i].count - s.units[i].lastPosition) s) :=
  congrArg Host.Outcome.next ((if_pos hm).trans (if_pos hc))

/-- Settles O13. -/
theorem rotationSamples : Obligations.RotationSamples := by
  refine ⟨fun i highA highB s hload hmode => ?_, ?_, ?_⟩
  · refine ⟨setAct (partner i) highB (setAct i highA s), congrArg _ (if_pos (by rw [hload, hmode]; rfl)), rfl, ?_, ?_, ?_⟩
    · rw [setAct_lines_of_ne (partner_ne i).symm, setAct, setLines_lines, if_pos rfl]
    · rw [setAct, setLines_lines, if_pos rfl, setAct_lines_of_ne (partner_ne i)]
    · intro j hj hp
      rw [setAct_lines_of_ne hp, setAct_lines_of_ne hj]
  · intro i s hmode hc d turned active
    have hturn : changesDirection s.units[i] d = true ↔ turned := changesDirection_iff _ _
    have hactive : s.sampleActive i d ↔ active := or_congr_left hturn
    have harmed : (s.units[i].movingSample d).armed = s.units[i].armed := by rw [movingSample_eq]; rfl
    rw [exec_sample_moving hmode hc, sampleMoving_cases]
    refine ⟨s.movingSampled i d, rfl, fun j hj => movingSampled_unit_ne s d hj, ?_⟩
    rw [movingSampled_unit, harmed, movingSample_eq, sampled_eq]
    refine ⟨rfl, rfl, rfl, rfl, fun h => ?_, fun h => ?_, fun h ha => ?_, fun h => ?_, rfl, rfl, fun h => ?_,
      fun h hst hf => ?_⟩
    · simp only [hturn.mpr h, if_true, Bool.true_or]
      exact ⟨rfl, trivial⟩
    · simp only [Bool.eq_false_iff.mpr (mt hturn.mp h), Bool.false_eq_true, if_false, Bool.false_or]
      exact ⟨trivial, trivial⟩
    · simp only [hactive.mpr h, ha, and_self, if_true, decide_true]
      exact ⟨trivial, rfl⟩
    · rcases h with h | h
      · simp only [mt hactive.mp h, false_and, if_false, decide_false, Bool.false_and, Bool.not_false, Bool.true_and,
          and_self]
      · simp only [h, Bool.false_eq_true, and_false, if_false, Bool.and_false, Bool.not_false, Bool.true_and, and_self]
    · refine congrArg _ (if_neg fun hn => ?_)
      rcases h with h | h | h
      · exact h (hactive.mp hn.1)
      · exact h hn.2.1
      · rw [hn.2.2] at h
        cases h
    · exact congrArg _ (if_pos ⟨hactive.mpr h, hst, hf⟩)
  · intro i s hmode hc d n run
    rw [exec_sample_coasting hmode hc, sampleCoasting_cases]
    refine ⟨s.coastSampled i d, rfl, fun j hj => ?_, ?_, fun h => ?_, fun hr hlt hst => ?_⟩
    · rw [State.coastSampled, setUnit_units, if_neg hj]
    · rw [State.coastSampled, setUnit_units, if_pos rfl, sampled_eq]
      rfl
    · exact congrArg _ (if_neg fun hn => by
        obtain ⟨hrun, hlt, hst⟩ := hn
        exact h.elim (absurd hrun) fun h => h.elim (fun hle => absurd hlt (Nat.not_lt.mpr hle)) (absurd hst))
    · exact congrArg _ (if_pos ⟨hr, hlt, hst⟩)

/-! ### The idle timer (R30, R31, R40) -/

theorem idleCounting_iff (s : State) (i : LpId) : s.idleCounting i = true ↔
    s.units[i].armed = true ∧ s.units[i].expiryReported = false ∧
      ¬(s.unitMode i = .loadLevel ∧ s.units[i].loaded = some true) := by
  simp only [State.idleCounting, Bool.and_eq_true, Bool.not_eq_true', Bool.and_eq_false_iff, and_assoc, not_and_or,
    beq_eq_false_iff_ne, ne_eq]

/-- Settles O14. -/
theorem idleTimersRunDown : Obligations.IdleTimersRunDown := by
  refine ⟨fun i s => ⟨fun ha he hl hidle => ?_, fun h => ?_⟩, fun i s ha he hl hidle => ?_⟩
  · have hc := (idleCounting_iff s i).mpr ⟨ha, he, hl⟩
    exact ⟨congrArg _ ((if_pos hc).trans (if_neg (by omega))),
      congrArg _ (if_neg (by rw [hc, Bool.true_and, decide_eq_true_eq]; omega))⟩
  · have hc : s.idleCounting i = false := Bool.eq_false_iff.mpr fun hc => by
      obtain ⟨ha, he, hl⟩ := (idleCounting_iff s i).mp hc
      rcases h with h | h | h
      · rw [h] at ha; cases ha
      · rw [h] at he; cases he
      · exact hl h
    exact ⟨congrArg _ (if_neg (by rw [hc]; exact Bool.false_ne_true)),
      congrArg _ (if_neg (by rw [hc]; exact Bool.false_ne_true))⟩
  · intro u
    have hc := (idleCounting_iff s i).mpr ⟨ha, he, hl⟩
    have hexp : exec (.idleExpiry i) s = .next (reportExpiry i s) :=
      congrArg _ (if_pos (by rw [hc, Bool.true_and, decide_eq_true_eq]; exact hidle))
    rw [hexp]
    exact ⟨fun h => congrArg _ (if_pos h), fun h => congrArg _ (if_neg h),
      congrArg _ ((if_pos hc).trans (if_pos hidle))⟩

end Sys2Proof.Machine
end

section
/-! PROOFS, a channel's lines (chapters 2 and 3): edges, first levels and the read-back watch. -/

namespace Sys2Proof.Machine

/-! ### Edges of RUN, GRANT and HAND (R44, R55, R56) -/

theorem runRises_eq (i : LpId) (s : State) : ∃ u, runRises i s = settle u ∧
    u = (s.withLines (s.lines.set i { s.lines[i] with run := some true })).withChans u.chans ∧
    (∀ j, j ≠ i → u.chans[j] = s.chans[j]) ∧
    u.chans[i] = (if s.chans[i].state = .starting then
      { s.chans[i] with startT := .off, settleT := .running ((s.block i).startSettle.toNat * 1000000) }
      else s.chans[i]) := by
  by_cases h : s.chans[i].state = .starting
  · refine ⟨_, congrArg settle (if_pos h), rfl, fun j hj => ?_, ?_⟩
    · exact (setChan_chans ..).trans (if_neg hj)
    · exact ((setChan_chans ..).trans (if_pos rfl)).trans (if_pos h).symm
  · exact ⟨_, congrArg settle (if_neg h), rfl, fun _ _ => rfl, (if_neg h).symm⟩

theorem runDrops_eq (i : LpId) (s : State) : ∃ u, runDrops i s = settle u ∧
    u = (s.withLines (s.lines.set i { s.lines[i] with run := some false })).withChans u.chans ∧
    (∀ j, j ≠ i → u.chans[j] = s.chans[j]) ∧
    u.chans[i] = (if s.chans[i].state = .starting then
      { s.chans[i] with settleT := .off, startT := .running ((s.block i).startTimeout.toNat * 1000000) }
      else s.chans[i]) := by
  by_cases h : s.chans[i].state = .starting
  · refine ⟨_, congrArg settle (if_pos h), rfl, fun j hj => ?_, ?_⟩
    · exact (setChan_chans ..).trans (if_neg hj)
    · exact ((setChan_chans ..).trans (if_pos rfl)).trans (if_pos h).symm
  · exact ⟨_, congrArg settle (if_neg h), rfl, fun _ _ => rfl, (if_neg h).symm⟩

theorem exec_handAsserted {s : State} {i : LpId} (hl : s.loaded = true) (hh : s.handPresent i = false) :
    exec (.handAsserted i) s = .next (handAsserts i s) := congrArg Host.Outcome.next (if_pos (by rw [hl, hh]; rfl))

theorem exec_handReleased {s : State} {i : LpId} (hl : s.loaded = true) (hh : s.handPresent i = true) :
    exec (.handReleased i) s = .next (handReleases i s) := congrArg Host.Outcome.next (if_pos (by rw [hl, hh]; rfl))

/-- An edge command that brings the level already read is not taken: its guard fails. -/
theorem not_edge {l p : Bool} (h : p = false) : ¬(l && p) = true := by
  rw [h, Bool.and_false]
  exact Bool.false_ne_true

/-- Settles O19. -/
theorem machineLineEdges : Obligations.MachineLineEdges := by
  refine ⟨fun i s hl => ⟨fun h => ?_, fun h => ?_, fun h => ?_, fun h => ?_⟩,
    fun i s hl => ⟨exec_grantRise hl, exec_grantDrop hl, fun h => ?_, fun h => ?_⟩,
    fun i s hl => ⟨fun h hu => ?_, fun h hu => ?_, fun h hm => ?_, fun h hm => ?_, fun h => ?_, fun h => ?_⟩⟩
  · obtain ⟨u, he, hu⟩ := runRises_eq i s
    exact ⟨u, (exec_runRise hl h).trans (congrArg _ he), hu⟩
  · obtain ⟨u, he, hu⟩ := runDrops_eq i s
    exact ⟨u, (exec_runDrop hl h).trans (congrArg _ he), hu⟩
  · exact congrArg _ (if_neg (not_edge (by rw [h]; rfl)))
  · exact congrArg _ (if_neg (not_edge h))
  · exact congrArg _ (if_neg (not_edge (by rw [h]; rfl)))
  · exact congrArg _ (if_neg (not_edge h))
  · exact (exec_handAsserted hl h).trans (congrArg _ (if_pos hu))
  · exact (exec_handAsserted hl h).trans (congrArg _ (if_neg (ne_true_of_eq_false hu)))
  · exact (exec_handReleased hl h).trans (congrArg (fun u => Host.Outcome.next (settle u)) (if_pos hm))
  · exact (exec_handReleased hl h).trans (congrArg (fun u => Host.Outcome.next (settle u)) (if_neg hm))
  · exact congrArg _ (if_neg (not_edge (by rw [h]; rfl)))
  · exact congrArg _ (if_neg (not_edge h))

/-! ### First levels (R19, R65) -/

/-- The unit after the first level of its ACT filter. -/
theorem firstReading_eq (u : ActUnit) (loaded : Bool) (reload : Nat) : u.firstReading loaded reload = { u with
    loaded := some loaded
    idle := if u.armed = true ∧ loaded = true then reload else u.idle
    expiryReported := u.expiryReported && !decide (u.armed = true ∧ loaded = true) } := by
  unfold ActUnit.firstReading
  cases u.armed <;> cases loaded <;> simp

/-- A guard on the first level of a line that has none yet is passed. -/
theorem isSome_none_ite {α : Type} {β : Type} {x : Option α} (h : x = none) (a b : β) :
    (if x.isSome then a else b) = b := if_neg (by rw [h]; exact Bool.false_ne_true)

theorem exec_lineFirstLevel {s : State} (hl : s.loaded = true) (line : LpLine) (i : LpId) (p : Bool) :
    exec (.lineFirstLevel line i p) s = .next (match line with
      | .run =>
        if s.lines[i].run.isSome then s
        else if p then runRises i s
        else s.setLines i { s.lines[i] with run := some false }
      | .grant =>
        if s.lines[i].grant.isSome then s
        else if p then setGrant i true s
        else s.setLines i { s.lines[i] with grant := some false }
      | .hand =>
        if s.lines[i].hand.isSome then s
        else if p then handAsserts i s
        else s.setLines i { s.lines[i] with hand := some false }
      | .stoprb => if s.lines[i].stoprb.isSome then s else setStoprb i p s) :=
  congrArg Host.Outcome.next (if_pos hl)

/-- Settles O21. -/
theorem firstLevelsAreTaken : Obligations.FirstLevelsAreTaken := by
  refine ⟨?_, fun i s hl => ⟨fun h => ⟨?_, ?_⟩, fun h => ⟨?_, ?_⟩, fun h => ⟨?_, ?_⟩, fun h b => ?_⟩⟩
  · intro i high s hl hact reading
    have he : exec (.actFirstLevel i high) s = .next (actFirst i high s) :=
      congrArg Host.Outcome.next (if_pos (by rw [hl, hact]; rfl))
    have hline : ∀ j, (setAct i high s).lines[j] = if j = i then { s.lines[i] with act := some high } else s.lines[j] :=
      fun j => setLines_lines ..
    rw [he]
    by_cases hm : s.unitMode i = .loadLevel
    · refine ⟨_, congrArg _ (if_pos hm), rfl, (hline i).trans (if_pos rfl), ?_,
        fun j hj => ⟨(hline j).trans (if_neg hj), (setUnit_units ..).trans (if_neg hj)⟩⟩
      rw [setUnit_units, if_pos rfl, firstReading_eq, loadedReading_eq]
      simp only [hm, true_and, if_true]
      rfl
    · refine ⟨_, congrArg _ (if_neg hm), rfl, (hline i).trans (if_pos rfl), ?_,
        fun j hj => ⟨(hline j).trans (if_neg hj), rfl⟩⟩
      simp only [hm, false_and, if_false, decide_false, Bool.not_false, Bool.and_true]
      rfl
  · rw [exec_lineFirstLevel hl, exec_runRise hl (by rw [State.runPresent, h]; rfl)]
    exact congrArg _ ((isSome_none_ite h ..).trans (if_pos rfl))
  · rw [exec_lineFirstLevel hl]
    exact congrArg _ ((isSome_none_ite h ..).trans (if_neg Bool.false_ne_true))
  · rw [exec_lineFirstLevel hl, exec_grantRise hl (by rw [State.grantPresent, h]; rfl)]
    exact congrArg _ ((isSome_none_ite h ..).trans (if_pos rfl))
  · rw [exec_lineFirstLevel hl]
    exact congrArg _ ((isSome_none_ite h ..).trans (if_neg Bool.false_ne_true))
  · rw [exec_lineFirstLevel hl, exec_handAsserted hl (by rw [State.handPresent, h]; rfl)]
    exact congrArg _ ((isSome_none_ite h ..).trans (if_pos rfl))
  · rw [exec_lineFirstLevel hl]
    exact congrArg _ ((isSome_none_ite h ..).trans (if_neg Bool.false_ne_true))
  · rw [exec_lineFirstLevel hl]
    have he : exec (.stoprbEdge i b) s = .next (setStoprb i b s) :=
      congrArg Host.Outcome.next (if_pos (by rw [hl, h]; rfl))
    rw [he]
    exact congrArg _ (isSome_none_ite h ..)

/-! ### The read-back watch (R59, R156) -/

/-- The watch judged anew against a level of STOPRBn. -/
theorem judgedWatch_some (c : Chan) (level : Bool) : judgedWatch c (some level) =
    if c.lockout = .hard ∨ level = c.state.stopAsserted then .off
    else if c.watch.isRunning then c.watch else .running 200000 := by
  unfold judgedWatch
  cases hk : c.lockout <;> by_cases hl : level = c.state.stopAsserted <;> simp [freshWatch, hl, startAt, millis]

/-- Settles O22. -/
theorem readBackWatch : Obligations.ReadBackWatch := by
  refine ⟨fun i level s hl hne hu => ?_, fun i s hw => ?_⟩
  · have he : exec (.stoprbEdge i level) s = .next ((s.setLines i { s.lines[i] with stoprb := some level }).setChan i
        { s.chans[i] with watch := judgedWatch s.chans[i] (some level) }) :=
      congrArg Host.Outcome.next ((if_pos (by rw [hl, Bool.true_and]; exact bne_iff_ne.mpr hne)).trans (if_pos hu))
    have hc : ∀ j, ((s.setLines i { s.lines[i] with stoprb := some level }).setChan i
        { s.chans[i] with watch := judgedWatch s.chans[i] (some level) }).chans[j] =
        if j = i then { s.chans[i] with watch := judgedWatch s.chans[i] (some level) } else s.chans[j] :=
      fun j => setChan_chans ..
    refine ⟨_, he, rfl, rfl, fun j hj => (hc j).trans (if_neg hj), ?_, fun h => ?_, fun h => ?_, fun h1 h2 h3 => ?_⟩ <;>
      rw [hc, if_pos rfl]
    · rw [judgedWatch_some, if_pos (.inl h)]
    · rw [judgedWatch_some, if_pos (.inr h)]
    · exact (judgedWatch_some ..).trans ((if_neg (not_or.mpr ⟨h1, h2⟩)).trans (if_neg (ne_true_of_eq_false h3)))
  · let t := (reportLp i .outputStuck true s).raise .outputStuck
    let c : Chan := { s.chans[i] with lockout := .hard, watch := .off }
    have hc : ∀ j, (t.setChan i c).chans[j] = if j = i then c else s.chans[j] := fun j => setChan_chans ..
    have hstate : (t.setChan i c).chans[i].state = s.chans[i].state :=
      (congrArg Chan.state ((hc i).trans (if_pos rfl)) : _ = c.state)
    refine ⟨t.setChan i c, fun h => congrArg _ ((if_pos hw).trans (if_pos (hstate.trans h))),
      fun h => congrArg _ ((if_pos hw).trans (if_neg fun hm => h (hstate.symm.trans hm))), rfl,
      fun j hj => (hc j).trans (if_neg hj), (hc i).trans (if_pos rfl), rfl, rfl, rfl, ?_⟩
    · exact BitVec.or_assoc ..

end Sys2Proof.Machine
end

section
/-! PROOFS, timers (00_scope, chapters 3, 5, 6, 7 and 8): what each expiry does, that a timer that is off does not
expire, and the idle step. -/

namespace Sys2Proof.Machine

/-! ### Locking faults and the stop timer (R42, R45, R46, R64, R156) -/

theorem lockSoft_faults (i : LpId) (code : FaultCode) (s : State) :
    (lockSoft i code s).faults = (reportLp i code true s).faults := by
  rw [lockSoft, enter, enterFor_eq]
  rfl

theorem lockSoft_chan (i : LpId) (code : FaultCode) (s : State) : (lockSoft i code s).chans[i].state = .lockout ∧
    (lockSoft i code s).chans[i].lockout = .soft := by
  rw [lockSoft, enter, enterFor_chan_eq, setChan_chans, if_pos rfl]
  exact ⟨rfl, rfl⟩

theorem lockSoft_chan_ne {i j : LpId} (code : FaultCode) (s : State) (h : j ≠ i) :
    (lockSoft i code s).chans[j] = s.chans[j] := by
  rw [lockSoft, enter, (enterFor_of_ne none .lockout _ h).1, setChan_chans, if_neg h]
  rfl

/-- The last attempt refused: the count is left at 0. -/
theorem refuseAttempt_last {s : State} {i : LpId} (h : s.chans[i].retry ≤ 1) : refuseAttempt i s =
    if (s.block i).reportOnExhaust = 1 then lockSoft i .grantRefused (s.setChan i { s.chans[i] with retry := 0 })
    else (enter i .excluded (s.setChan i { s.chans[i] with retry := 0, autoOff := true })).raise .exhausted := by
  have hleft : s.chans[i].retry - 1 = 0 := by omega
  unfold refuseAttempt
  dsimp only
  rw [hleft, if_neg (Nat.lt_irrefl 0)]
  by_cases hx : (s.block i).reportOnExhaust = 1
  · rw [if_pos hx, if_pos (beq_iff_eq.mpr hx)]
  · rw [if_neg hx, if_neg (mt beq_iff_eq.mp hx)]
    have hc : ∀ c d : Chan, (s.setChan i c).setChan i d = s.setChan i d := fun c d => by
      simp [State.setChan, Vector.set_set]
    rw [hc, setChan_chans, if_pos rfl]

/-- Settles O23. -/
theorem stopTimerExpires : Obligations.StopTimerExpires := by
  intro i s hst hrun
  have he : exec (.stopTimerExpiry i) s =
      .next (settle (if (s.block i).isHandshake then refuseAttempt i s else lockSoft i .stopNotSeen s)) :=
    congrArg Host.Outcome.next (if_pos ⟨hst, hrun⟩)
  have hrefuse : (s.block i).control = 0 → exec (.stopTimerExpiry i) s = .next (settle (refuseAttempt i s)) := fun h =>
    he.trans (congrArg (fun u => Host.Outcome.next (settle u)) (if_pos (LpBlock.isHandshake_iff.mpr h)))
  refine ⟨fun h => ?_, fun h hr => ?_, fun h hr hx => ?_, fun h hr hx => ?_⟩
  · exact he.trans (congrArg (fun u => Host.Outcome.next (settle u)) (if_neg (mt LpBlock.isHandshake_iff.mp h)))
  · rw [hrefuse h]
    exact congrArg (fun u => Host.Outcome.next (settle u)) (if_pos (Nat.sub_pos_of_lt hr))
  · rw [hrefuse h, refuseAttempt_last hr, if_pos hx]
  · rw [hrefuse h, refuseAttempt_last hr, if_neg hx]

/-! ### Locking faults and the other timers of a channel (R48, R53, R55) -/

/-- Settles O24. -/
theorem channelTimersExpire : Obligations.ChannelTimersExpire := by
  refine ⟨fun i s => ⟨fun code => ?_, fun hst hrun => congrArg _ (if_pos ⟨hst, hrun⟩)⟩, fun i s hst hrun => ?_,
    fun i s => ⟨fun hst hrun => congrArg _ (if_pos ⟨hst, hrun⟩), fun hst hrun => congrArg _ (if_pos ⟨hst, hrun⟩),
      fun hst hrun => congrArg _ (if_pos ⟨hst, hrun⟩)⟩⟩
  · intro t
    obtain ⟨hstate, hkind⟩ := lockSoft_chan i code s
    have hf : t.faults = (reportLp i code true s).faults := lockSoft_faults i code s
    refine ⟨hstate, hkind, congrArg LpState.stopAsserted hstate, ?_, ?_, ?_, fun j hj => lockSoft_chan_ne code s hj⟩ <;>
      rw [hf] <;> rfl
  · let c : Chan := { s.chans[i] with coastT := .off, overrun := true }
    have hc : ∀ j, ((reportLp i .coastOverrun false s).setChan i c).chans[j] = if j = i then c else s.chans[j] :=
      fun j => setChan_chans ..
    refine ⟨(reportLp i .coastOverrun false s).setChan i c, congrArg _ (if_pos ⟨hst, hrun⟩), rfl,
      fun j hj => (hc j).trans (if_neg hj), (hc i).trans (if_pos rfl), ?_, rfl, congrArg _ (if_neg ?_)⟩
    · rw [← hst]
      rfl
    · rw [hc, if_pos rfl]
      exact fun h => Bool.false_ne_true h.2

/-! ### Timers that are off do not expire (00_scope) -/

theorem timer_off_ite {α : Type} {x : Timer} (h : x = .off) (a b : α) : (if x.isRunning then a else b) = b :=
  if_neg (by rw [h]; exact Bool.false_ne_true)

theorem timer_off_and_ite {α : Type} {p : Prop} [Decidable p] {x : Timer} (h : x = .off) (a b : α) :
    (if p ∧ x.isRunning then a else b) = b := if_neg (by rw [h]; exact fun h => Bool.false_ne_true h.2)

/-- Where every entry of an address already reads as the edit would leave it, the edit keeps the table. -/
theorem mapEntry_of_fixed {a : Byte} {f : PeerEntry → PeerEntry} {es : List PeerEntry}
    (h : ∀ e ∈ es, e.address = a → f e = e) : mapEntry a f es = es := by
  refine (List.map_congr_left fun e he => ?_).trans (List.map_id es)
  by_cases ha : e.address = a
  · exact (if_pos ha).trans (h e he ha)
  · exact if_neg ha

/-- A backoff's expiry changes nothing where no frame is backing off. -/
theorem exec_backoffExpiry_idle {s : State} (h : ∀ f x, s.link.inProgress = some f → f.phase ≠ .backingOff x) :
    exec .backoffExpiry s = .next s := by
  refine congrArg Host.Outcome.next ?_
  split
  case h_1 hf => exact absurd rfl (h _ _ hf)
  case h_2 => rfl

/-- Settles O25. -/
theorem balanceTimersExpire : Obligations.BalanceTimersExpire := by
  refine ⟨fun i v s => ⟨fun h => congrArg _ (if_pos h), fun h => congrArg _ (if_pos h)⟩,
    fun i v s => ⟨fun h => congrArg _ (timer_off_ite h ..), fun h => congrArg _ (timer_off_and_ite h ..),
      fun h => congrArg _ (timer_off_and_ite h ..), fun h => congrArg _ (timer_off_and_ite h ..),
      fun h => congrArg _ (timer_off_and_ite h ..), fun h => congrArg _ (timer_off_and_ite h ..),
      fun h => congrArg _ (timer_off_and_ite h ..), fun h => congrArg _ (timer_off_ite h ..),
      fun h => congrArg _ (timer_off_ite h ..), fun h => ?_, fun h => ?_, fun h => ?_⟩,
    fun a s => ⟨fun h => ?_, fun h => ?_, fun h => congrArg _ (timer_off_ite h ..), fun h => ?_,
      fun h => congrArg _ (if_neg h), fun h => congrArg _ (if_neg h), exec_backoffExpiry_idle⟩⟩
  · exact congrArg _ (if_neg (not_edge (by rw [h]; rfl)))
  · exact congrArg _ (if_neg (not_edge (by rw [h]; rfl)))
  · exact congrArg _ (if_neg (not_edge (by rw [h]; rfl)))
  · refine congrArg _ (if_neg fun hany => ?_)
    obtain ⟨e, he, hx⟩ := List.any_eq_true.mp hany
    obtain ⟨ha, hage⟩ := Bool.and_eq_true_iff.mp hx
    rw [h e he (beq_iff_eq.mp ha)] at hage
    cases hage
  · refine congrArg Host.Outcome.next ((congrArg s.withEntries (mapEntry_of_fixed fun e he ha => ?_)).trans rfl)
    rw [← h e he ha]
  · refine congrArg Host.Outcome.next ((congrArg s.withPeers (?_ : _ = s.peers)).trans rfl)
    rw [← h]

/-! ### The idle step (log entry 1) -/

theorem step_idle {s : State} (h : s.pending = []) : step s = .next s.tick := by
  rw [step, h]

/-- Settles O2. -/
theorem idleStepMovesTimersOnly : Obligations.IdleStepMovesTimersOnly := by
  intro s hp left ran
  have hleft : ∀ x : Timer, x.tick = left x := fun x => by cases x <;> rfl
  have hran : ∀ (full : Nat) (x : Timer), x.tickUp full = ran full x := fun full x => by cases x <;> rfl
  refine ⟨s.tick, step_idle hp, fun i => ?_, fun v => ?_, fun i => ?_, ?_, ?_, ?_, ?_, tick_units s, tick_lines s,
    tick_faults s, tick_config s, tick_station s, tick_loader s, (tick_pending s).trans hp⟩
  · rw [tick_chans, Fin.getElem_fin, Vector.getElem_ofFn, Chan.tick]
    simp only [hleft]
  · rw [tick_svcs, Fin.getElem_fin, Vector.getElem_ofFn, hran]
    rfl
  · rw [tick_provs, Fin.getElem_fin, Vector.getElem_ofFn, hran]
    rfl
  · rw [tick_link, hleft]
    refine congrArg (fun g : Sending → Sending => { s.link with
      silence := left s.link.silence, inProgress := s.link.inProgress.map g }) (funext fun f => ?_)
    obtain ⟨o, phase, n⟩ := f
    cases phase with
    | backingOff x => exact congrArg (fun y => Sending.mk o (.backingOff y) n) (hleft x)
    | _ => rfl
  · rw [tick_peers, hleft, hleft, show PeerEntry.tick = fun e => { e with
      age := left e.age, answerHold := left e.answerHold } from funext fun e => by rw [PeerEntry.tick, hleft, hleft]]
  · rw [tick_round, hleft, hleft]
  · rw [tick_mode, hleft, hleft]

end Sys2Proof.Machine
end

section
/-! PROOFS, the state after reset (R10, R84, R103, R140, R141, R154). -/

namespace Sys2Proof.Machine

theorem reset_chans (i : LpId) : State.reset.chans[i] = Chan.powerOn .unused 0 := Vector.getElem_replicate ..

theorem reset_units (i : LpId) : State.reset.units[i] = ActUnit.cleared := Vector.getElem_replicate ..

theorem reset_lpRecords (i : LpId) : State.reset.faults.lps[i] = FaultRecord.clear := Vector.getElem_replicate ..

theorem reset_alertAsserted : State.reset.alertAsserted = false := by decide

theorem reset_topAlert : State.reset.topAlert = none := by decide

/-- Settles O4. -/
theorem powerOnValues : Obligations.PowerOnValues := by
  intro s
  refine ⟨_, rfl, rfl, rfl, rfl, rfl, rfl, rfl, rfl, rfl, rfl, rfl, rfl, rfl, fun i => ⟨?_, reset_units i,
    reset_lpRecords i⟩, rfl, rfl, rfl, reset_topAlert, reset_alertAsserted, rfl, rfl, rfl, rfl, rfl, rfl, rfl, rfl, rfl, rfl, rfl,
    rfl, rfl, rfl, rfl, rfl, rfl, rfl, rfl, rfl, rfl, rfl, rfl, rfl, rfl, rfl⟩
  exact congrArg (fun c : Chan => c.state.stopAsserted) (reset_chans i)

/-- Settles O5. -/
theorem resetMeetsTheInvariants : Obligations.ResetMeetsTheInvariants := by
  refine ⟨by decide, by decide, fun i => ?_, by decide, by decide, by decide, by decide, by decide, ?_⟩
  · rw [reset_chans, reset_units]
    decide
  · unfold Quiet
    decide

end Sys2Proof.Machine
end

section
/-! PROOFS, the checks of an image (R11 to R13): the first structural error in check order. -/

namespace Sys2Proof.Machine

/-! ### Codes of a byte -/

theorem byte_eq_iff {x y : Byte} : x = y ↔ x.toNat = y.toNat := BitVec.toNat_inj.symm

theorem modeOf_stroke {x : Byte} : ActMode.ofByte x = .stroke ↔ x = 1 := by
  rw [byte_eq_iff, show ((1 : Byte)).toNat = 1 from rfl]
  unfold ActMode.ofByte
  split <;> simp_all

theorem modeOf_loadLevel {x : Byte} : ActMode.ofByte x = .loadLevel ↔ x = 2 := by
  rw [byte_eq_iff, show ((2 : Byte)).toNat = 2 from rfl]
  unfold ActMode.ofByte
  split <;> simp_all

theorem modeOf_rotation {x : Byte} : ActMode.ofByte x = .rotation ↔ x = 3 := by
  rw [byte_eq_iff, show ((3 : Byte)).toNat = 3 from rfl]
  unfold ActMode.ofByte
  split <;> simp_all

theorem modeOf_paired {x : Byte} : ActMode.ofByte x = .paired ↔ x = 4 := by
  rw [byte_eq_iff, show ((4 : Byte)).toNat = 4 from rfl]
  unfold ActMode.ofByte
  split <;> simp_all

theorem svcOfByte_eq_some {x : Byte} {v : SvcId} : svcOfByte x = some v ↔ x.toNat = v.val := by
  unfold svcOfByte
  split
  case isTrue h => simp [Fin.ext_iff]
  case isFalse h => simp only [reduceCtorEq, false_iff]; omega

theorem lpOfByte_eq_some {x : Byte} {i : LpId} : lpOfByte x = some i ↔ x.toNat = i.val := by
  unfold lpOfByte
  split
  case isTrue h => simp [Fin.ext_iff]
  case isFalse h => simp only [reduceCtorEq, false_iff]; omega

theorem any_svcOfByte {x : Byte} {p : SvcId → Bool} : (svcOfByte x).any p = true ↔ ∃ v, x.toNat = v.val ∧ p v = true := by
  simp [Option.any_eq_true, svcOfByte_eq_some]

theorem any_lpOfByte {x : Byte} {p : LpId → Bool} : (lpOfByte x).any p = true ↔ ∃ i, x.toNat = i.val ∧ p i = true := by
  simp [Option.any_eq_true, lpOfByte_eq_some]

theorem isSome_lpOfByte {x : Byte} : (lpOfByte x).isSome = true ↔ x.toNat ≤ 7 := by
  unfold lpOfByte
  split <;> simp <;> omega

/-! ### The first check that holds -/

/-- The sub-code and the object of the first check that holds. -/
def firstFound (checks : List (Bool × Nat × ImageObject)) : Option StructError := (checks.find? Prod.fst).map Prod.snd

theorem firstFound_append (a b : List (Bool × Nat × ImageObject)) :
    firstFound (a ++ b) = (firstFound a).or (firstFound b) := by
  rw [firstFound, List.find?_append, Option.map_or]
  rfl

theorem firstFound_flatMap {α : Type} (l : List α) (f : α → List (Bool × Nat × ImageObject)) :
    firstFound (l.flatMap f) = l.findSome? fun x => firstFound (f x) := by
  rw [firstFound, List.find?_flatMap, List.map_findSome?]
  rfl

theorem firstFound_map {α : Type} (l : List α) (f : α → Bool × Nat × ImageObject) :
    firstFound (l.map f) = l.findSome? fun x => firstFound [f x] := by
  rw [← firstFound_flatMap]
  exact congrArg firstFound List.map_eq_flatMap

theorem firstFound_object (o : ImageObject) (checks : List (Bool × Nat)) :
    firstFound (checks.map fun x => (x.1, x.2, o)) = firstCheck o checks := by
  rw [firstFound, List.find?_map, Option.map_map]
  rfl

theorem firstFound_eq_none {checks : List (Bool × Nat × ImageObject)} :
    firstFound checks = none ↔ ∀ c ∈ checks, c.1 = false := by
  simp [firstFound]

theorem firstCheck_cons (o : ImageObject) (a : Bool) (k : Nat) (l : List (Bool × Nat)) :
    firstCheck o ((a, k) :: l) = if a then some (k, o) else firstCheck o l := by
  cases a <;> rfl

/-- Two checks after each other that name one sub-code. -/
theorem firstCheck_merge (o : ImageObject) (a b : Bool) (k : Nat) (l : List (Bool × Nat)) :
    firstCheck o ((a, k) :: (b, k) :: l) = firstCheck o ((a || b, k) :: l) := by
  cases a <;> cases b <;> rfl

theorem firstCheck_congr {o : ImageObject} {a b : Bool} {k : Nat} {l m : List (Bool × Nat)} (h : a = b)
    (hl : firstCheck o l = firstCheck o m) : firstCheck o ((a, k) :: l) = firstCheck o ((b, k) :: m) := by
  rw [firstCheck_cons, firstCheck_cons, h, hl]

/-! ### Each block -/

theorem rawImage_lps (body : List Byte) (i : LpId) : (rawImage body).lps[i] = lpAt body i := Vector.getElem_ofFn ..

theorem rawImage_services (body : List Byte) (v : SvcId) :
    (rawImage body).services[v] = serviceAt body (21 + 7 * v.val) := Vector.getElem_ofFn ..

theorem rawImage_station (body : List Byte) (k : Fin 13) : (rawImage body).station[k] = byteAt body k.val :=
  Vector.getElem_ofFn ..

/-- The station checks of an image, as the table of R13 gives them. -/
def stationChecks (body : List Byte) : List (Bool × Nat × ImageObject) :=
  [(decide (byteAt body 0 = 0 ∨ 60 < (byteAt body 0).toNat), 1, .station),
   (decide (1 < (byteAt body 2).toNat), 3, .station)]

theorem stationError_eq (body : List Byte) : stationError (rawImage body) = firstFound (stationChecks body) := by
  have h0 : (rawImage body).station[0] = byteAt body 0 := rawImage_station body 0
  have h2 : (rawImage body).station[2] = byteAt body 2 := rawImage_station body 2
  have hd : decide (byteAt body 0 = 0 ∨ 60 < (byteAt body 0).toNat) =
      (byteAt body 0 == 0 || decide (60 < (byteAt body 0).toNat)) := by
    rw [Bool.eq_iff_iff]
    simp
  rw [stationError, h0, h2, stationChecks, hd]
  exact (firstFound_object .station _).symm

/-- The checks of one load point on its own. -/
def lpChecks (body : List Byte) (i : LpId) : List (Bool × Nat) :=
  let noService (x : Byte) := x ≠ 255 ∧ 11 < x.toNat
  let unusedService (x : Byte) := x.toNat ≤ 11 ∧ byteAt body (21 + 7 * x.toNat) ≠ 1
  let b := lpAt body i
  let pairs := [b.pair0, b.pair1, b.pair2].take b.pairCount.toNat
  [(decide (1 < b.inUse.toNat), 3),
    (decide (b.inUse = 1 ∧ (1 < b.control.toNat ∨ 4 < b.activityMode.toNat ∨
      b.activityMode = 1 ∧ 2 < b.edge.toNat ∨ b.activityMode = 2 ∧ 1 < b.loadPolarity.toNat ∨
      1 < b.reportOnExhaust.toNat)), 3),
    (decide (b.inUse = 1 ∧ (b.leader ≠ 255 ∧ 7 < b.leader.toNat ∨ noService b.provides)), 4),
    (decide (b.inUse = 1 ∧ 3 < b.pairCount.toNat), 5),
    (decide (b.inUse = 1 ∧ ∃ p ∈ pairs, 11 < p.service.toNat), 4),
    (decide (b.inUse = 1 ∧ b.provides ≠ 255 ∧ b.capacity = 0), 6),
    (decide (b.inUse = 1 ∧ (unusedService b.provides ∨ ∃ p ∈ pairs, unusedService p.service)), 7),
    (decide (b.inUse = 1 ∧ ¬(pairs.map RawPair.service).Nodup), 8)]

/-- The checks of one load point against the others. -/
def crossChecks (body : List Byte) (i : LpId) : List (Bool × Nat) :=
  let b := lpAt body i
  let inUse (l : Nat) := byteAt body (105 + 34 * l) = 1
  let mode (l : Nat) := byteAt body (107 + 34 * l)
  let leads := b.inUse = 1 ∧ b.leader.toNat ≤ 7
  let mate := if i.val % 2 = 0 then i.val + 1 else i.val - 1
  [(decide (leads ∧ b.leader.toNat = i.val), 9),
    (decide (leads ∧ ¬inUse b.leader.toNat), 10),
    (decide (leads ∧ (byteAt body (113 + 34 * b.leader.toNat)).toNat ≤ 7), 11),
    (decide (b.inUse = 1 ∧ b.activityMode = 3 ∧ i.val % 2 = 1), 12),
    (decide (b.inUse = 1 ∧ b.activityMode = 3 ∧ ¬(inUse mate ∧ mode mate = 4)), 13),
    (decide (b.inUse = 1 ∧ b.activityMode = 4 ∧ (i.val % 2 = 0 ∨ ¬(inUse mate ∧ mode mate = 3))), 14)]

theorem namesUnused_iff {body : List Byte} {x : Byte} : namesUnused (rawImage body) x = true ↔
    x.toNat ≤ 11 ∧ byteAt body (21 + 7 * x.toNat) ≠ 1 := by
  rw [namesUnused, any_svcOfByte]
  simp only [rawSvcInUse, rawImage_services, Bool.not_eq_true', beq_eq_false_iff_ne]
  constructor
  · rintro ⟨v, hv, h⟩
    exact ⟨by omega, hv ▸ h⟩
  · rintro ⟨hx, h⟩
    exact ⟨⟨x.toNat, by omega⟩, rfl, h⟩

theorem firstCheck_of_false {o : ImageObject} {l : List (Bool × Nat)} (h : ∀ c ∈ l, c.1 = false) :
    firstCheck o l = none := by
  simpa [firstCheck] using h

theorem lpError_eq (body : List Byte) (i : LpId) : lpError (rawImage body) i =
    firstCheck (.loadPoint i) (lpChecks body i) := by
  unfold lpError
  dsimp only
  rw [rawImage_lps]
  generalize hb : lpAt body i = b
  by_cases h0 : b.inUse = 0
  · rw [if_pos (beq_iff_eq.mpr h0), firstCheck_of_false]
    simp [lpChecks, hb, h0]
  rw [if_neg (mt beq_iff_eq.mp h0)]
  by_cases h1 : b.inUse = 1
  · have hflag : badFlag b.inUse = false := by rw [h1]; decide
    rw [hflag, lpChecks, hb]
    refine firstCheck_congr (by rw [h1]; decide) ?_
    simp only [h1, true_and]
    rw [firstCheck_merge, firstCheck_merge, firstCheck_merge, firstCheck_merge]
    refine firstCheck_congr ?_ ?_
    · rw [Bool.eq_iff_iff]
      simp [LpBlock.mode, modeOf_stroke, modeOf_loadLevel, badFlag, ← BitVec.toNat_inj, or_assoc]
    rw [firstCheck_merge]
    refine firstCheck_congr ?_ (firstCheck_congr rfl (firstCheck_congr ?_ (firstCheck_congr ?_ (firstCheck_congr ?_
      (firstCheck_congr ?_ rfl)))))
    all_goals rw [Bool.eq_iff_iff]
    · simp
    · simp [LpBlock.pairs]
    · simp
    · simp [namesUnused_iff, LpBlock.pairs]
    · simp [LpBlock.pairs]
  · have hflag : 1 < b.inUse.toNat := by
      have hz : b.inUse.toNat ≠ 0 := fun h => h0 (byte_eq_iff.mpr h)
      have ho : b.inUse.toNat ≠ 1 := fun h => h1 (byte_eq_iff.mpr h)
      omega
    rw [lpChecks, hb, firstCheck_cons, firstCheck_cons, badFlag, decide_eq_true hflag, if_pos rfl]
    rfl

theorem partner_val (i : LpId) : (partner i).val = if i.val % 2 = 0 then i.val + 1 else i.val - 1 := by
  revert i
  decide

theorem partnerIs_iff {body : List Byte} {i : LpId} {m : ActMode} : partnerIs (rawImage body) i m = true ↔
    byteAt body (105 + 34 * (partner i).val) = 1 ∧ ActMode.ofByte (byteAt body (107 + 34 * (partner i).val)) = m := by
  rw [partnerIs, rawImage_lps, Bool.and_eq_true, beq_iff_eq, LpBlock.isInUse, beq_iff_eq]
  have : 105 + 34 * (partner i).val + 2 = 107 + 34 * (partner i).val := by omega
  rw [← this]
  rfl

theorem exists_lp_iff {n : Nat} {p : Nat → Prop} : (∃ l : LpId, n = l.val ∧ p l.val) ↔ n ≤ 7 ∧ p n := by
  constructor
  · rintro ⟨l, rfl, h⟩
    exact ⟨by omega, h⟩
  · rintro ⟨hn, h⟩
    exact ⟨⟨n, by omega⟩, rfl, h⟩

theorem crossError_eq (body : List Byte) (i : LpId) : crossError (rawImage body) i =
    firstCheck (.loadPoint i) (crossChecks body i) := by
  unfold crossError
  dsimp only
  rw [rawImage_lps]
  have hleads : ∀ l : LpId, (lpAt body l).leader = byteAt body (113 + 34 * l.val) := fun l =>
    congrArg (byteAt body) (by omega)
  have huse : ∀ l : LpId, (lpAt body l).inUse = byteAt body (105 + 34 * l.val) := fun l => rfl
  generalize hb : lpAt body i = b
  by_cases h1 : b.inUse = 1
  · have hflag : b.isInUse = true := beq_iff_eq.mpr h1
    rw [hflag, if_neg (by decide), crossChecks, hb]
    simp only [h1, true_and]
    refine firstCheck_congr ?_ (firstCheck_congr ?_ (firstCheck_congr ?_ (firstCheck_congr ?_ (firstCheck_congr ?_
      (firstCheck_congr ?_ rfl)))))
    all_goals rw [Bool.eq_iff_iff]
    · rw [beq_iff_eq, LpBlock.leaderOf, lpOfByte_eq_some, decide_eq_true_eq]
      omega
    · rw [LpBlock.leaderOf, any_lpOfByte, decide_eq_true_eq]
      simp only [rawImage_lps, LpBlock.isInUse, Bool.not_eq_true', beq_eq_false_iff_ne, huse]
      exact exists_lp_iff (p := fun l => byteAt body (105 + 34 * l) ≠ 1)
    · rw [LpBlock.leaderOf, any_lpOfByte, decide_eq_true_eq]
      simp only [rawImage_lps, LpBlock.leaderOf, isSome_lpOfByte, hleads]
      exact exists_lp_iff (p := fun l => (byteAt body (113 + 34 * l)).toNat ≤ 7)
    · simp [LpBlock.mode, modeOf_rotation, ← BitVec.toNat_inj]
    · rw [Bool.and_eq_true, beq_iff_eq, Bool.not_eq_true', ← Bool.not_eq_true, partnerIs_iff, partner_val,
        decide_eq_true_eq, LpBlock.mode, modeOf_rotation, modeOf_paired]
    · rw [Bool.and_eq_true, beq_iff_eq, Bool.or_eq_true, beq_iff_eq, Bool.not_eq_true', ← Bool.not_eq_true,
        partnerIs_iff, partner_val, decide_eq_true_eq, LpBlock.mode, modeOf_rotation, modeOf_paired]
  · have hflag : b.isInUse = false := beq_eq_false_iff_ne.mpr h1
    rw [hflag, Bool.not_false, if_pos rfl, firstCheck_of_false]
    simp only [crossChecks, hb, h1, false_and, decide_false, List.forall_mem_cons, List.not_mem_nil, false_imp_iff,
      implies_true, and_self]

end Sys2Proof.Machine
end

section
/-! PROOFS, the loader (R10 to R16, R143, R144): reading on, and the two ways a load ends. -/

namespace Sys2Proof.Machine

/-! ### The loader's commands -/

theorem exec_loadAttemptFailed {s : State} (h : s.loader.phase ≠ .done) :
    exec .loadAttemptFailed s = .next (attemptFails s) :=
  congrArg Host.Outcome.next (if_neg fun hd => h (beq_iff_eq.mp hd))

theorem attemptFails_last {s : State} (h : 2 ≤ s.loader.failures) :
    attemptFails s = endLoad (.rejected .imageMissing StationFields.default) s := if_pos h

theorem exec_headerRead_bad {s : State} {format : Byte} {length sum : Half} (h : s.loader.phase = .header)
    (hbad : format ≠ 1 ∨ length.toNat ≠ 377) :
    exec (.headerRead format length sum) s = .next (endLoad (.rejected .imageFormat StationFields.default) s) :=
  congrArg Host.Outcome.next ((if_pos h).trans (if_neg fun ⟨hf, hl⟩ => hbad.elim (· hf) (· hl)))

theorem exec_bodyRead {s : State} {sum : Half} (h : s.loader.phase = .body sum) (body : List Byte) :
    exec (.bodyRead body) s = .next
      (if body.length < 377 then attemptFails s else endLoad (checkBody sum (body.take 377)) s) := by
  refine congrArg Host.Outcome.next ?_
  rw [h]
  rfl

theorem exec_bodyRead_whole {s : State} {sum : Half} {body : List Byte} (h : s.loader.phase = .body sum)
    (hl : body.length = 377) : exec (.bodyRead body) s = .next (endLoad (checkBody sum body) s) := by
  rw [exec_bodyRead h, if_neg (by omega), List.take_of_length_le (by omega)]

/-! ### A rejected load -/

/-- The reply that a RESTART is owed changes only the link's frames and the mark of what is owed. -/
theorem answerRestart_eq (s : State) : ∃ l q, answerRestart s = (s.withLink l).withLoader { s.loader with replySeq := q } ∧
    l.counters = s.link.counters := by
  unfold answerRestart
  split
  · unfold handReply
    split
    · exact ⟨_, _, rfl, takeNext_counters _⟩
    · exact ⟨_, _, rfl, rfl⟩
  · rename_i h
    exact ⟨s.link, none, by rw [← h]; rfl, rfl⟩

theorem configFault_set (s : State) : (s.raise .configFault).flagSet .configFault = true := by
  simp [State.flagSet, State.raise, EventClass.bit]

theorem endLoad_loadRejected (fault : FaultCode) (station : StationFields) (s : State) :
    s.LoadRejected (endLoad (.rejected fault station) s) fault station := by
  obtain ⟨l, q, he, hl⟩ := answerRestart_eq (loadRejected fault station s)
  rw [endLoad_rejected, he]
  exact ⟨rfl, rfl, rfl, rfl, rfl, rfl, rfl, fun i => ⟨Vector.getElem_replicate .., Vector.getElem_replicate ..⟩, rfl,
    rfl, rfl, configFault_set _, rfl, rfl, rfl, rfl, rfl, hl⟩

theorem checkBody_badSum {sum : Half} {body : List Byte} (h : bodySum body ≠ sum) :
    checkBody sum body = .rejected .imageSum StationFields.default := if_pos h

theorem checkBody_stationError {sum : Half} {body : List Byte} (h : bodySum body = sum) {e : StructError}
    (he : stationError (rawImage body) = some e) :
    checkBody sum body = .rejected (.imageStructure e.1 e.2) StationFields.default := by
  unfold checkBody
  rw [if_neg (not_not.mpr h)]
  dsimp only
  rw [he]

theorem checkBody_laterError {sum : Half} {body : List Byte} (h : bodySum body = sum)
    (hs : stationError (rawImage body) = none) {e : StructError} (he : laterError (rawImage body) = some e) :
    checkBody sum body = .rejected (.imageStructure e.1 e.2) (clampStation (rawImage body)) := by
  unfold checkBody
  rw [if_neg (not_not.mpr h)]
  dsimp only
  rw [hs, he]

/-- The first structural error of an image in check order, over the checks of all its blocks. -/
theorem laterError_eq (body : List Byte) : laterError (rawImage body) = firstFound
    (([((planAt body).planNumber == 0, 2, .plan)] ++
      (svcIds.map fun v => (decide (1 < (byteAt body (21 + 7 * v.val)).toNat), 3, .service v)) ++
      (lpIds.flatMap fun i => (lpChecks body i).map fun x => (x.1, x.2, .loadPoint i))) ++
      lpIds.flatMap fun i => (crossChecks body i).map fun x => (x.1, x.2, .loadPoint i)) := by
  have hplan : planError (rawImage body) = firstFound [((planAt body).planNumber == 0, 2, .plan)] :=
    (firstFound_object .plan [((planAt body).planNumber == 0, 2)]).symm
  have hsvc : serviceError (rawImage body) = fun v =>
      firstFound [(decide (1 < (byteAt body (21 + 7 * v.val)).toNat), 3, .service v)] := by
    funext v
    rw [serviceError, rawImage_services]
    exact (firstFound_object (.service v) [(badFlag (byteAt body (21 + 7 * v.val)), 3)]).symm
  have hlp : lpError (rawImage body) = fun i =>
      firstFound ((lpChecks body i).map fun x => (x.1, x.2, .loadPoint i)) := by
    funext i
    rw [lpError_eq, firstFound_object]
  have hcross : crossError (rawImage body) = fun i =>
      firstFound ((crossChecks body i).map fun x => (x.1, x.2, .loadPoint i)) := by
    funext i
    rw [crossError_eq, firstFound_object]
  rw [laterError, hplan, hsvc, hlp, hcross, firstFound_append, firstFound_append, firstFound_append, firstFound_map,
    firstFound_flatMap, firstFound_flatMap, Option.or_assoc, Option.or_assoc]

/-- Settles O6. -/
theorem loadersReadOrReject : Obligations.LoadersReadOrReject := by
  refine ⟨fun s => ⟨fun h hf => ?_, fun length sum h hl => ?_, fun sum body h hl => ?_⟩,
    fun s => ⟨fun h hf => ?_, fun format length sum h hbad => ?_, fun sum body h hl => ⟨fun hs => ?_,
      fun hs e he => ?_, fun hs hst e he => ?_⟩⟩, fun body => ⟨stationError_eq body, laterError_eq body⟩⟩
  · exact (exec_loadAttemptFailed h).trans (congrArg _ (if_neg (by omega)))
  · exact congrArg _ ((if_pos h).trans (if_pos ⟨rfl, hl⟩))
  · rw [exec_bodyRead h, if_pos hl, exec_loadAttemptFailed (by rw [h]; nofun)]
  · exact ⟨_, (exec_loadAttemptFailed h).trans (congrArg _ (attemptFails_last hf)), endLoad_loadRejected _ _ s⟩
  · exact ⟨_, exec_headerRead_bad h hbad, endLoad_loadRejected _ _ s⟩
  · exact ⟨_, by rw [exec_bodyRead_whole h hl, checkBody_badSum hs], endLoad_loadRejected _ _ s⟩
  · exact ⟨_, by rw [exec_bodyRead_whole h hl, checkBody_stationError hs he], endLoad_loadRejected _ _ s⟩
  · exact ⟨_, by rw [exec_bodyRead_whole h hl, checkBody_laterError hs hst he], endLoad_loadRejected _ _ s⟩

/-! ### An accepted load -/

/-- Nothing of the night stands: LISTEN_IN by day, each channel in RUNNING or UNUSED, no surplus assessed. -/
structure State.Begins (u : State) : Prop where
  listening : u.mode.station = some .listenIn
  day : u.mode.plant = .day
  channels : ∀ i : LpId, u.chans[i].state = .running ∨ u.chans[i].state = .unused
  provs : ∀ i : LpId, u.provs[i] = ProvBalance.clear

/-- The shortfall record as LISTEN_IN begins: clear, or its timer started where the condition holds. -/
structure State.ShortBegun (u t : State) : Prop where
  frame : t = u.withSvcs t.svcs
  svcs : ∀ v : SvcId, t.svcs[v] = SvcBalance.clear ∨
    u.shortOf v = true ∧ t.svcs[v] = { SvcBalance.clear with timer := .running 0 }

theorem State.Begins.congr {u t : State} (h : u.Begins) (ht : t = u.withSvcs t.svcs) : t.Begins := by
  rw [ht]
  exact ⟨h.listening, h.day, h.channels, h.provs⟩

theorem State.Begins.not_deciding {u : State} (h : u.Begins) : u.deciding = false := by
  simp [State.deciding, State.isActive, State.inConflict, h.listening]

theorem State.Begins.ne {u : State} (h : u.Begins) {i : LpId} {st : LpState} (hs : u.chans[i].state = st)
    (hr : st ≠ .running) (hu : st ≠ .unused) : False := (h.channels i).elim (fun h => hr (hs ▸ h)) fun h => hu (hs ▸ h)

/-- The only consequence of a load is the start of a shortfall timer. -/
theorem State.Begins.due {u : State} (h : u.Begins) (hs : ∀ v : SvcId, u.svcs[v] = SvcBalance.clear ∨
    u.shortOf v = true ∧ u.svcs[v] = { SvcBalance.clear with timer := .running 0 }) {d : Due} (hd : due u = some d) :
    ∃ v, d = .shortBegins v ∧ u.shortOf v = true ∧ u.svcs[v] = SvcBalance.clear := by
  have hg := due_guard hd
  have hwatch : u.shortWatched = true := by simp [State.shortWatched, State.listening, h.listening]
  cases d with
  | shortBegins v => exact ⟨v, rfl, hg.1, (hs v).resolve_right fun hc => by simpa [hc.2] using hg.2.2⟩
  | shortCeases v =>
    obtain ⟨hoff, hrun⟩ := hg
    rcases hs v with hc | ⟨hshort, -⟩
    · simp [hc, SvcBalance.clear] at hrun
    · simp [hshort, hwatch] at hoff
  | shortForce v on =>
    obtain ⟨-, -, -, hon, hne⟩ := hg
    rcases hs v with hc | ⟨-, hc⟩ <;> simp [hc, SvcBalance.clear] at hon hne <;> exact absurd hon.symm (by simp [hne])
  | takeBack i => rcases h.channels i with hc | hc <;> simp [Due.Guard, State.recalled, hc, -Fin.getElem_fin] at hg
  | release i st => rcases h.channels i with hc | hc <;> simp [Due.Guard, releaseTo, hc, -Fin.getElem_fin] at hg
  | call i cause => obtain ⟨l, -, hl, -⟩ := hg; exact (h.ne hl nofun nofun).elim
  | callOut i => obtain ⟨l, -, hl, -⟩ := hg; exact (h.ne hl nofun nofun).elim
  | confirm i => exact (h.ne hg.2.1 nofun nofun).elim
  | runOnStop i => exact (h.ne hg.2.2.1 nofun nofun).elim
  | surplusReport i => exact (h.ne hg.2.2.2 nofun nofun).elim
  | callOff i => exact (h.ne hg.2.1 nofun nofun).elim
  | leadBegins i => exact (h.ne hg.2.1 nofun nofun).elim
  | leadLost i => exact (h.ne hg.2.1 nofun nofun).elim
  | postStop i => exact (h.ne hg.2.2.1 nofun nofun).elim
  | postStart i => exact (h.ne hg.2.2.1 nofun nofun).elim
  | surplusCeases i => simp [Due.Guard, h.provs i, ProvBalance.clear, -Fin.getElem_fin] at hg
  | surplusEnds i => simp [Due.Guard, h.provs i, ProvBalance.clear, -Fin.getElem_fin] at hg
  | goIdle i st => simp [Due.Guard, State.nightWork, h.not_deciding] at hg
  | surplusBegins i => simp [Due.Guard, State.assessing, State.isActive, h.listening] at hg
  | bid i cause => simp [Due.Guard, h.not_deciding] at hg
  | enters m => simp [Due.Guard, h.not_deciding] at hg
  | stagger q => simp [Due.Guard, State.staggering, State.isActive, State.inConflict, h.listening] at hg
  | handIntent => simp [Due.Guard, State.mayHandIntent, State.isActive, h.listening] at hg

/-- The services whose shortfall timer has not started. -/
def State.idleSvcs (s : State) : Finset SvcId := Finset.univ.filter fun v => s.svcs[v].timer = .off

theorem shortBegins_lowers {t : State} {v : SvcId} (h : t.svcs[v].timer = .off) :
    (fire t (.shortBegins v)).idleSvcs.card < t.idleSvcs.card := by
  have hset : ∀ w : SvcId, (fire t (.shortBegins v)).svcs[w] =
      if w = v then { t.svcs[v] with timer := startAt 0 } else t.svcs[w] := fun w => setSvc_svcs ..
  refine Finset.card_lt_card (Finset.ssubset_iff_subset_ne.mpr ⟨fun w hw => ?_, fun he => ?_⟩)
  · simp only [State.idleSvcs, Finset.mem_filter, Finset.mem_univ, true_and, hset] at hw ⊢
    split at hw
    · cases hw
    · exact hw
  · have hv : v ∈ (fire t (.shortBegins v)).idleSvcs := he ▸ by simpa [State.idleSvcs] using h
    simp only [State.idleSvcs, Finset.mem_filter, hset, if_pos] at hv
    cases hv.2

theorem State.ShortBegun.fire {u t : State} (hb : u.Begins) (h : u.ShortBegun t) {d : Due} (hd : due t = some d) :
    u.ShortBegun (fire t d) ∧ (Machine.fire t d).idleSvcs.card < t.idleSvcs.card := by
  have hsame : ∀ v, t.shortOf v = u.shortOf v := fun v => by
    rw [h.frame]
    rfl
  obtain ⟨v, rfl, hshort, hclear⟩ := (hb.congr h.frame).due (fun v => hsame v ▸ h.svcs v) hd
  refine ⟨⟨?_, fun w => ?_⟩, shortBegins_lowers (by rw [hclear]; rfl)⟩
  · rw [h.frame]
    rfl
  · rw [show (Machine.fire t (.shortBegins v)).svcs[w] = if w = v then { t.svcs[v] with timer := startAt 0 } else t.svcs[w]
      from setSvc_svcs ..]
    split
    · subst w
      exact .inr ⟨hsame v ▸ hshort, by rw [hclear]; rfl⟩
    · exact h.svcs w

theorem settleFor_begun {u : State} (hb : u.Begins) : ∀ (n : Nat) (t : State), u.ShortBegun t → t.idleSvcs.card ≤ n →
    u.ShortBegun (settleFor n t) ∧ Quiet (settleFor n t)
  | 0, t, h, hn => by
    refine ⟨h, ?_⟩
    by_contra hne
    obtain ⟨d, hd⟩ := Option.ne_none_iff_exists'.mp hne
    exact absurd (h.fire hb hd).2 (by omega)
  | n + 1, t, h, hn => by
    unfold settleFor
    split
    case h_1 hd => exact ⟨h, hd⟩
    case h_2 d hd =>
      obtain ⟨hf, hlt⟩ := h.fire hb hd
      exact settleFor_begun hb n _ hf (by omega)

/-- What the consequences of a load are: each shortfall timer whose condition holds starts. -/
theorem settle_begun {u : State} (hb : u.Begins) (hclear : ∀ v : SvcId, u.svcs[v] = SvcBalance.clear) :
    settle u = u.withSvcs (settle u).svcs ∧ ∀ v : SvcId, (settle u).svcs[v] = { SvcBalance.clear with
      timer := if u.shortOf v then .running 0 else .off } := by
  obtain ⟨hbegun, hq⟩ := settleFor_begun hb Config.cascadeBound u ⟨rfl, fun v => .inl (hclear v)⟩
    ((Finset.card_le_univ _).trans (by decide))
  have he : settle u = settleFor Config.cascadeBound u := releaseFor_of_none (quiet_rules hq _ (by simp [dueRules])) _
  rw [he]
  generalize settleFor Config.cascadeBound u = t at *
  refine ⟨hbegun.frame, fun v => ?_⟩
  have hshort : t.shortOf v = u.shortOf v := by
    rw [hbegun.frame]
    rfl
  have hwatch : t.shortWatched = true := by
    rw [hbegun.frame]
    exact (by simp [State.shortWatched, State.listening, hb.listening] : u.shortWatched = true)
  rcases hbegun.svcs v with hc | ⟨hs, hc⟩
  · by_cases hs : u.shortOf v = true
    · have := quiet_short hq v
      simp [shortDue, hshort, hs, hwatch, hc, SvcBalance.clear, -Fin.getElem_fin] at this
    · rw [hc, if_neg hs]
      rfl
  · rw [hc, if_pos hs]

/-- What an accepted image leaves as it is. -/
theorem loadAccepted_eq (station : StationFields) (c : Configuration) (marks : List ClampMark) (s : State) :
    loadAccepted station c marks s = ((((((((s.withConfig (some c)).withStation station).withLoader
      (s.loader.ended (.accepted station c marks))).withFaults (loadAccepted station c marks s).faults).withChans
      (loadAccepted station c marks s).chans).withUnits (loadAccepted station c marks s).units).withSvcs
      (Vector.replicate 12 SvcBalance.clear)).withProvs (Vector.replicate 8 ProvBalance.clear)).withMode
      { s.mode with plant := .day, station := some .listenIn } := by
  unfold loadAccepted
  dsimp only
  split <;> rfl

theorem loadAccepted_faults (station : StationFields) (c : Configuration) (marks : List ClampMark) (s : State) :
    (loadAccepted station c marks s).faults = if marks = [] then s.faults else (reportLoad .clamped s).faults := by
  unfold loadAccepted
  cases marks <;> rfl

theorem loadAccepted_begins (station : StationFields) (c : Configuration) (marks : List ClampMark) (s : State) :
    (loadAccepted station c marks s).Begins := by
  refine ⟨?_, ?_, fun i => ?_, fun i => ?_⟩
  · rw [loadAccepted_eq]
    rfl
  · rw [loadAccepted_eq]
    rfl
  · rw [loadAccepted_chans]
    split
    · exact .inl rfl
    · exact .inr rfl
  · rw [loadAccepted_eq]
    exact Vector.getElem_replicate ..

theorem listeningFrom_eq {s : State} (h : s.link.waitBeacon = none) : listeningFrom s =
    (s.withMode { s.mode with
      listenIn := startAt s.listenInUs, beaconT := startAt (seconds s.statusSecs), seq := s.mode.seq + 1 }).withLink
      { s.link with waitBeacon := some (s.beaconFrame true) }.takeNext := by
  unfold listeningFrom handBeacon
  dsimp only
  split
  case h_1 hw => exact nomatch h.symm.trans hw
  case h_2 => rfl

theorem handReply_of_address {s : State} (ha : s.station.address.isSome = true) (hc : s.inConflict = false) (q : Byte)
    (payload : List Byte) : handReply q payload s =
      s.withLink { s.link with waitReply := some (s.replyFrame q payload) }.takeNext :=
  if_pos (by rw [ha, hc]; rfl)

theorem answerRestart_of_address {s : State} (ha : s.station.address.isSome = true) (hc : s.inConflict = false) :
    answerRestart s = (s.withLoader { s.loader with replySeq := none }).withLink (match s.loader.replySeq with
      | none => s.link
      | some q => { s.link with waitReply := some (s.replyFrame q [9, 7, 2]) }.takeNext) := by
  unfold answerRestart
  cases hq : s.loader.replySeq with
  | none =>
    have hl : { s.loader with replySeq := none } = s.loader := by rw [← hq]
    rw [hl]
    rfl
  | some q => exact handReply_of_address (s := s.withLoader { s.loader with replySeq := none }) ha hc q _

theorem accepted_cases {sum : Half} {body : List Byte} {station : StationFields} {c : Configuration}
    {marks : List ClampMark} (h : checkBody sum body = .accepted station c marks) : bodySum body = sum ∧
    stationError (rawImage body) = none ∧ laterError (rawImage body) = none ∧ station = clampStation (rawImage body) ∧
    c = clampImage (rawImage body) ∧ marks = imageMarks (rawImage body) := by
  unfold checkBody at h
  split at h
  · cases h
  · rename_i hsum
    dsimp only at h
    split at h
    · cases h
    · cases h
    · rename_i hs hl
      cases h
      exact ⟨not_not.mp hsum, hs, hl, rfl, rfl, rfl⟩

/-- Settles O7. -/
theorem loadEndsGood : Obligations.LoadEndsGood := by
  intro s sum body station c marks hph hlen hcheck hw
  have ha : station.address.isSome = true := by
    obtain ⟨-, -, -, rfl, -⟩ := accepted_cases hcheck
    rfl
  refine ⟨_, by rw [exec_bodyRead_whole hph hlen, hcheck, endLoad_accepted], ?_⟩
  obtain ⟨hframe, hsvcs⟩ := settle_begun (loadAccepted_begins station c marks s) fun v => by
    rw [loadAccepted_eq]
    exact Vector.getElem_replicate ..
  have hchans := loadAccepted_chans station c marks s
  have hunits := loadAccepted_units station c marks s
  have hfaults := loadAccepted_faults station c marks s
  have hu := loadAccepted_eq station c marks s
  generalize loadAccepted station c marks s = u at *
  have hshort : ∀ v x, (u.withSvcs x).shortOf v = u.shortOf v := fun v x => rfl
  obtain ⟨faults, chans, units, rfl⟩ : ∃ faults chans units, u = ((((((((s.withConfig (some c)).withStation station).withLoader
      (s.loader.ended (.accepted station c marks))).withFaults faults).withChans chans).withUnits units).withSvcs
      (Vector.replicate 12 SvcBalance.clear)).withProvs (Vector.replicate 8 ProvBalance.clear)).withMode
      { s.mode with plant := .day, station := some .listenIn } := ⟨_, _, _, hu⟩
  generalize settle _ = t at *
  obtain ⟨svcs, rfl⟩ : ∃ svcs, t = State.withSvcs _ svcs := ⟨_, hframe⟩
  rw [listeningFrom_eq (by exact hw), answerRestart_of_address ha (by rfl)]
  refine ⟨rfl, rfl, ?_, ?_, rfl, rfl, rfl, fun i => ⟨?_, ?_, ?_, ?_, ?_⟩, ?_, ?_, ?_, ?_⟩
  · cases marks <;> rfl
  · rfl
  · have hc : chans[i].state.stopAsserted = false := by
      rw [show chans[i] = _ from hchans i]
      split <;> rfl
    exact hc
  · exact Vector.getElem_replicate ..
  · intro huse
    refine (hchans i).trans ((if_pos (beq_iff_eq.mpr huse)).trans ?_)
    rw [freshWatch_eq]
    cases s.lines[i].stoprb with
    | none => rfl
    | some b => cases b <;> rfl
  · exact fun huse => (hchans i).trans (if_neg (mt beq_iff_eq.mp huse))
  · refine (hunits i).trans ?_
    simp only [Bool.and_eq_true, beq_iff_eq, LpBlock.isInUse, funext (loadedReading_eq c.lps[i].loadPolarity)]
  · exact fun v => hsvcs v
  · exact fun hm => hfaults.trans (if_pos hm)
  · exact fun hm => hfaults.trans (if_neg hm)
  · refine ⟨{ origin := .beacon true, frame := { kind := 1, source := _, destination := 255, seq := _, payload := _ } },
      rfl, rfl, ?_⟩
    show (match s.loader.replySeq with
      | none => (_ : Link)
      | some q => _) = _
    cases s.loader.replySeq <;> rfl

end Sys2Proof.Machine
end

section
/-! PROOFS, accepted images (R1 to R13): ranges, clamps and their marks. -/

namespace Sys2Proof.Machine

theorem LpBlock.isInUse_iff {b : LpBlock} : b.isInUse = true ↔ b.inUse = 1 := beq_iff_eq

/-! ### Clamped fields -/

theorem clampTo_bounds {lo hi : Nat} (h : lo ≤ hi) (v : Nat) : lo ≤ clampTo lo hi v ∧ clampTo lo hi v ≤ hi := by
  unfold clampTo
  omega

theorem clampTo_of_mem {lo hi v : Nat} (h : ¬(v < lo ∨ hi < v)) : clampTo lo hi v = v := by
  unfold clampTo
  omega

theorem clampByte_bounds {lo hi : Nat} {a : Bool} (ha : a = true) (h : lo ≤ hi) (hb : hi < 256) (v : Byte) :
    lo ≤ (clampByte a lo hi v).toNat ∧ (clampByte a lo hi v).toNat ≤ hi := by
  have hc := clampTo_bounds h v.toNat
  rw [clampByte, if_pos ha, BitVec.toNat_ofNat, Nat.mod_eq_of_lt (by omega)]
  exact hc

theorem clampHalf_bounds {lo hi : Nat} {a : Bool} (ha : a = true) (h : lo ≤ hi) (hb : hi < 65536) (v : Half) :
    lo ≤ (clampHalf a lo hi v).toNat ∧ (clampHalf a lo hi v).toNat ≤ hi := by
  have hc := clampTo_bounds h v.toNat
  rw [clampHalf, if_pos ha, BitVec.toNat_ofNat, Nat.mod_eq_of_lt (by omega)]
  exact hc

theorem clampMark_eq_nil {o : ImageObject} {k : Nat} {a : Bool} {lo hi v : Nat} :
    clampMark o k a lo hi v = [] ↔ (a = true → ¬(v < lo ∨ hi < v)) := by
  unfold clampMark
  cases a <;> simp

theorem clampByte_of_unmarked {o : ImageObject} {k : Nat} {a : Bool} {lo hi : Nat} {v : Byte}
    (h : clampMark o k a lo hi v.toNat = []) : clampByte a lo hi v = v := by
  rw [clampMark_eq_nil] at h
  unfold clampByte
  split
  case isTrue ha => rw [clampTo_of_mem (h ha), BitVec.ofNat_toNat, BitVec.setWidth_eq]
  case isFalse => rfl

theorem clampHalf_of_unmarked {o : ImageObject} {k : Nat} {a : Bool} {lo hi : Nat} {v : Half}
    (h : clampMark o k a lo hi v.toNat = []) : clampHalf a lo hi v = v := by
  rw [clampMark_eq_nil] at h
  unfold clampHalf
  split
  case isTrue ha => rw [clampTo_of_mem (h ha), BitVec.ofNat_toNat, BitVec.setWidth_eq]
  case isFalse => rfl

/-! ### A clamped load point record -/

@[simp] theorem clampLp_inUse (b : LpBlock) : (clampLp b).inUse = b.inUse := by unfold clampLp; split <;> rfl
@[simp] theorem clampLp_control (b : LpBlock) : (clampLp b).control = b.control := by unfold clampLp; split <;> rfl
@[simp] theorem clampLp_activityMode (b : LpBlock) : (clampLp b).activityMode = b.activityMode := by
  unfold clampLp; split <;> rfl
@[simp] theorem clampLp_edge (b : LpBlock) : (clampLp b).edge = b.edge := by unfold clampLp; split <;> rfl
@[simp] theorem clampLp_loadPolarity (b : LpBlock) : (clampLp b).loadPolarity = b.loadPolarity := by
  unfold clampLp; split <;> rfl
@[simp] theorem clampLp_reportOnExhaust (b : LpBlock) : (clampLp b).reportOnExhaust = b.reportOnExhaust := by
  unfold clampLp; split <;> rfl
@[simp] theorem clampLp_leader (b : LpBlock) : (clampLp b).leader = b.leader := by unfold clampLp; split <;> rfl
@[simp] theorem clampLp_provides (b : LpBlock) : (clampLp b).provides = b.provides := by unfold clampLp; split <;> rfl
@[simp] theorem clampLp_pairCount (b : LpBlock) : (clampLp b).pairCount = b.pairCount := by
  unfold clampLp; split <;> rfl

@[simp] theorem clampLp_mode (b : LpBlock) : (clampLp b).mode = b.mode := congrArg ActMode.ofByte (clampLp_activityMode b)
@[simp] theorem clampLp_leaderOf (b : LpBlock) : (clampLp b).leaderOf = b.leaderOf := congrArg lpOfByte (clampLp_leader b)
@[simp] theorem clampLp_providesOf (b : LpBlock) : (clampLp b).providesOf = b.providesOf :=
  congrArg svcOfByte (clampLp_provides b)

/-- The record of an in-use load point as it is held. -/
theorem clampLp_of_inUse {b : LpBlock} (h : b.inUse = 1) : clampLp b = { b with
    level := clampByte true 0 7 b.level
    idleLimit := clampHalf (b.mode != .paired) 10 7200 b.idleLimit
    runOn := clampHalf true 0 600 b.runOn
    leadTime := clampHalf true 0 600 b.leadTime
    capacity := clampHalf b.providesOf.isSome 1 4000 b.capacity
    pair0 := clampPair b 0 b.pair0
    pair1 := clampPair b 1 b.pair1
    pair2 := clampPair b 2 b.pair2
    grantTimeout := clampByte b.isHandshake 1 120 b.grantTimeout
    startTimeout := clampByte true 1 120 b.startTimeout
    startSettle := clampByte true 1 120 b.startSettle
    feedbackTimeout := clampByte (!b.isHandshake) 1 60 b.feedbackTimeout
    retries := clampByte true 1 7 b.retries
    coastLimit := clampHalf (b.mode == .rotation) 10 900 b.coastLimit
    standstillSamples := clampByte (b.mode == .rotation) 1 15 b.standstillSamples } :=
  if_pos (beq_iff_eq.mpr h)

theorem clampLp_of_unused {b : LpBlock} (h : b.inUse ≠ 1) : clampLp b = b := if_neg (mt beq_iff_eq.mp h)

/-- The pairs within the count, clamped, name the services they named, each with a unit at least. -/
theorem clampLp_pairs {b : LpBlock} (h : b.inUse = 1) :
    (clampLp b).pairs.map RawPair.service = b.pairs.map RawPair.service ∧ ∀ p ∈ (clampLp b).pairs, 1 ≤ p.units.toNat := by
  have hk : ∀ k p, k < b.pairCount.toNat → 1 ≤ (clampPair b k p).units.toNat := fun k p hk =>
    (clampByte_bounds (decide_eq_true hk) (by omega) (by omega) p.units).1
  rw [LpBlock.pairs, LpBlock.pairs, clampLp_pairCount, clampLp_of_inUse h, List.map_take, List.map_take]
  refine ⟨rfl, fun p hp => ?_⟩
  obtain ⟨k, hlt, rfl⟩ := List.mem_iff_getElem.mp hp
  rw [List.length_take] at hlt
  rw [List.getElem_take]
  have hcount : k < b.pairCount.toNat := by omega
  have hlen : k < 3 := by simpa using (lt_min_iff.mp hlt).2
  interval_cases k <;> exact hk _ _ hcount

/-! ### What the checks leave -/

/-- The conditions an in-use load point record meets once no check of it holds. -/
structure LpSound (body : List Byte) (b : LpBlock) : Prop where
  control : b.control.toNat ≤ 1
  mode : b.activityMode.toNat ≤ 4
  edge : b.activityMode = 1 → b.edge.toNat ≤ 2
  polarity : b.activityMode = 2 → b.loadPolarity.toNat ≤ 1
  report : b.reportOnExhaust.toNat ≤ 1
  leader : b.leader = 255 ∨ b.leader.toNat ≤ 7
  provides : b.provides = 255 ∨ b.provides.toNat ≤ 11
  count : b.pairCount.toNat ≤ 3
  pairs : ∀ p ∈ b.pairs, p.service.toNat ≤ 11
  capacity : b.provides = 255 ∨ b.capacity ≠ 0
  provided : b.provides.toNat ≤ 11 → byteAt body (21 + 7 * b.provides.toNat) = 1
  demanded : ∀ p ∈ b.pairs, byteAt body (21 + 7 * p.service.toNat) = 1
  distinct : (b.pairs.map RawPair.service).Nodup

theorem lpSound_of_checks {body : List Byte} {i : LpId} (h : ∀ x ∈ lpChecks body i, x.1 = false) :
    (lpAt body i).inUse.toNat ≤ 1 ∧ ((lpAt body i).inUse = 1 → LpSound body (lpAt body i)) := by
  unfold lpChecks at h
  dsimp only at h
  generalize lpAt body i = b at *
  simp only [List.forall_mem_cons, decide_eq_false_iff_not, List.not_mem_nil, false_imp_iff, implies_true,
    and_true] at h
  obtain ⟨huse, hcode, hindex, hcount, hpair, hcap, hsvc, hdup⟩ := h
  refine ⟨by omega, fun h1 => ?_⟩
  simp only [h1, true_and, not_or, not_and, not_lt] at hcode hindex hcount hpair hcap hsvc hdup
  obtain ⟨hcontrol, hmode, hedge, hpol, hrep⟩ := hcode
  obtain ⟨hlead, hprov⟩ := hindex
  have hpairs : ∀ p ∈ b.pairs, p.service.toNat ≤ 11 := fun p hp => by
    by_contra hlt
    exact hpair ⟨p, hp, by omega⟩
  exact { control := hcontrol, mode := hmode, edge := hedge, polarity := hpol, report := hrep, count := hcount
          leader := or_iff_not_imp_left.mpr hlead, provides := or_iff_not_imp_left.mpr hprov, pairs := hpairs
          capacity := or_iff_not_imp_left.mpr hcap, provided := fun hx => not_not.mp (hsvc.1 hx)
          demanded := fun p hp => by
            by_contra hne
            exact hsvc.2 ⟨p, hp, hpairs p hp, hne⟩
          distinct := not_not.mp hdup }

/-- What an accepted body has passed, block by block. -/
theorem checks_of_accepted {sum : Half} {body : List Byte} {station : StationFields} {c : Configuration}
    {marks : List ClampMark} (h : checkBody sum body = .accepted station c marks) :
    (byteAt body 0 ≠ 0 ∧ (byteAt body 0).toNat ≤ 60 ∧ (byteAt body 2).toNat ≤ 1) ∧ (planAt body).planNumber ≠ 0 ∧
    (∀ v : SvcId, (byteAt body (21 + 7 * v.val)).toNat ≤ 1) ∧
    (∀ i : LpId, ∀ x ∈ lpChecks body i, x.1 = false) ∧ ∀ i : LpId, ∀ x ∈ crossChecks body i, x.1 = false := by
  obtain ⟨-, hs, hl, -⟩ := accepted_cases h
  rw [stationError_eq, firstFound_eq_none] at hs
  rw [laterError_eq, firstFound_eq_none] at hl
  have hplan := hl (_, 2, .plan) (List.mem_append_left _ (List.mem_append_left _ (List.mem_append_left _
    (List.mem_singleton.mpr rfl))))
  have hsvc := fun v : SvcId => hl (_, 3, .service v) (List.mem_append_left _ (List.mem_append_left _
    (List.mem_append_right _ (List.mem_map.mpr ⟨v, mem_svcIds v, rfl⟩))))
  simp only [stationChecks, List.forall_mem_cons, decide_eq_false_iff_not, not_or, not_lt, beq_eq_false_iff_ne] at hs hplan hsvc
  obtain ⟨⟨h0, h60⟩, hcode, -⟩ := hs
  exact ⟨⟨h0, h60, hcode⟩, hplan, hsvc,
    fun i x hx => hl (x.1, x.2, .loadPoint i) (List.mem_append_left _ (List.mem_append_right _ (List.mem_flatMap.mpr
      ⟨i, mem_lpIds i, List.mem_map.mpr ⟨x, hx, rfl⟩⟩))),
    fun i x hx => hl (x.1, x.2, .loadPoint i) (List.mem_append_right _ (List.mem_flatMap.mpr
      ⟨i, mem_lpIds i, List.mem_map.mpr ⟨x, hx, rfl⟩⟩))⟩

/-- The blocks of the configuration an accepted body gives. -/
theorem clampImage_lps (body : List Byte) (i : LpId) : (clampImage (rawImage body)).lps[i] = clampLp (lpAt body i) := by
  rw [← rawImage_lps]
  exact Vector.getElem_ofFn ..

theorem clampImage_services (body : List Byte) (v : SvcId) : (clampImage (rawImage body)).services[v] =
    clampService (serviceAt body (21 + 7 * v.val)) := by
  rw [← rawImage_services]
  exact Vector.getElem_ofFn ..

theorem clampService_of_inUse {b : ServiceBlock} (h : b.inUse = 1) : clampService b =
    { b with margin := clampByte true 0 100 b.margin, surplusHold := clampHalf true 10 3600 b.surplusHold,
             shortfallConfirm := clampByte true 1 60 b.shortfallConfirm } := if_pos (beq_iff_eq.mpr h)

theorem clampService_of_unused {b : ServiceBlock} (h : b.inUse ≠ 1) : clampService b = serviceBlank :=
  if_neg (mt beq_iff_eq.mp h)

theorem clampService_inUse_iff (b : ServiceBlock) : (clampService b).inUse = 1 ↔ b.inUse = 1 := by
  by_cases h : b.inUse = 1
  · rw [clampService_of_inUse h]
  · rw [clampService_of_unused h]
    exact iff_of_false (by decide) h

/-- How an in-use load point stands to its leader and its partner once no check of it holds. -/
theorem cross_of_checks {body : List Byte} {i : LpId} (h : ∀ x ∈ crossChecks body i, x.1 = false)
    (h1 : (lpAt body i).inUse = 1) :
    (∀ l, (lpAt body i).leaderOf = some l → l ≠ i ∧ (lpAt body l).inUse = 1 ∧ (lpAt body l).leaderOf = none) ∧
    ((lpAt body i).mode = .rotation → i.val % 2 = 0 ∧ (lpAt body (partner i)).inUse = 1 ∧
      (lpAt body (partner i)).mode = .paired) ∧
    ((lpAt body i).mode = .paired → i.val % 2 = 1 ∧ (lpAt body (partner i)).inUse = 1 ∧
      (lpAt body (partner i)).mode = .rotation) := by
  unfold crossChecks at h
  dsimp only at h
  simp only [List.forall_mem_cons, decide_eq_false_iff_not, List.not_mem_nil, false_imp_iff, implies_true,
    and_true, h1, true_and, not_and, Classical.not_imp, not_not, not_or, ← partner_val] at h
  obtain ⟨hself, huse, hlead, hodd, hrot, hpair⟩ := h
  have hinUse : ∀ l : LpId, (lpAt body l).inUse = byteAt body (105 + 34 * l.val) := fun l => rfl
  have hmodeAt : ∀ l : LpId, (lpAt body l).activityMode = byteAt body (107 + 34 * l.val) := fun l =>
    congrArg (byteAt body) (by omega)
  have hleaderAt : ∀ l : LpId, (lpAt body l).leader = byteAt body (113 + 34 * l.val) := fun l =>
    congrArg (byteAt body) (by omega)
  refine ⟨fun l hl => ?_, fun hm => ?_, fun hm => ?_⟩
  · have hval : (lpAt body i).leader.toNat = l.val := lpOfByte_eq_some.mp hl
    refine ⟨fun he => hself (by omega) (he ▸ hval), ?_, ?_⟩
    · rw [hinUse, ← hval]
      exact huse (by omega)
    · rw [LpBlock.leaderOf, ← Option.not_isSome_iff_eq_none, isSome_lpOfByte, hleaderAt, ← hval]
      exact hlead (by omega)
  · have hmode := modeOf_rotation.mp hm
    obtain ⟨hu, hp⟩ := hrot hmode
    rw [hinUse, LpBlock.mode, modeOf_paired, hmodeAt]
    exact ⟨by have := hodd hmode; omega, hu, hp⟩
  · have hmode := modeOf_paired.mp hm
    obtain ⟨hodd', hu, hp⟩ := hpair hmode
    rw [hinUse, LpBlock.mode, modeOf_rotation, hmodeAt]
    exact ⟨by omega, hu, hp⟩

/-! ### Ranges -/

theorem rawStation (body : List Byte) {k : Nat} (h : k < 13) : (rawImage body).station[k] = byteAt body k :=
  Vector.getElem_ofFn ..

theorem clampStation_eq (body : List Byte) : clampStation (rawImage body) =
    { address := some (byteAt body 0), statusInterval := clampByte true 1 10 (byteAt body 1),
      followPlantNight := byteAt body 2, alertThreshold := clampByte true 1 7 (byteAt body 3),
      levels := Vector.ofFn fun k => clampByte true 0 7 (byteAt body (4 + k.val)) } := by
  unfold clampStation
  simp only [rawStation]

theorem isStation_of_range {a : Byte} (h0 : a ≠ 0) (h : a.toNat ≤ 60) : isStation a = true := by
  have hpos : a.toNat ≠ 0 := fun hz => h0 (byte_eq_iff.mpr hz)
  simp [isStation, h]
  omega

/-- The fields of an in-use load point lie in their ranges. -/
theorem clampLp_ranges {b : LpBlock} (h1 : b.inUse = 1) :
    (clampLp b).level.toNat ≤ 7 ∧ (clampLp b).runOn.toNat ≤ 600 ∧ (clampLp b).leadTime.toNat ≤ 600 ∧
    (1 ≤ (clampLp b).startTimeout.toNat ∧ (clampLp b).startTimeout.toNat ≤ 120) ∧
    (1 ≤ (clampLp b).startSettle.toNat ∧ (clampLp b).startSettle.toNat ≤ 120) ∧
    (1 ≤ (clampLp b).retries.toNat ∧ (clampLp b).retries.toNat ≤ 7) ∧
    (b.mode ≠ .paired → 10 ≤ (clampLp b).idleLimit.toNat ∧ (clampLp b).idleLimit.toNat ≤ 7200) ∧
    (b.control = 0 → 1 ≤ (clampLp b).grantTimeout.toNat ∧ (clampLp b).grantTimeout.toNat ≤ 120) ∧
    (b.control = 1 → 1 ≤ (clampLp b).feedbackTimeout.toNat ∧ (clampLp b).feedbackTimeout.toNat ≤ 60) ∧
    (b.mode = .rotation → 10 ≤ (clampLp b).coastLimit.toNat ∧ (clampLp b).coastLimit.toNat ≤ 900 ∧
      1 ≤ (clampLp b).standstillSamples.toNat ∧ (clampLp b).standstillSamples.toNat ≤ 15) ∧
    (b.providesOf.isSome = true → 1 ≤ (clampLp b).capacity.toNat ∧ (clampLp b).capacity.toNat ≤ 4000) := by
  rw [clampLp_of_inUse h1]
  refine ⟨(clampByte_bounds rfl (by omega) (by omega) _).2, (clampHalf_bounds rfl (by omega) (by omega) _).2,
    (clampHalf_bounds rfl (by omega) (by omega) _).2, clampByte_bounds rfl (by omega) (by omega) _,
    clampByte_bounds rfl (by omega) (by omega) _, clampByte_bounds rfl (by omega) (by omega) _,
    fun h => clampHalf_bounds (bne_iff_ne.mpr h) (by omega) (by omega) _,
    fun h => clampByte_bounds (beq_iff_eq.mpr h) (by omega) (by omega) _,
    fun h => clampByte_bounds (by simp [LpBlock.isHandshake, h]) (by omega) (by omega) _, fun h => ?_,
    fun h => clampHalf_bounds h (by omega) (by omega) _⟩
  obtain ⟨hlo, hhi⟩ := clampHalf_bounds (beq_iff_eq.mpr h) (by omega : 10 ≤ 900) (by omega) b.coastLimit
  exact ⟨hlo, hhi, clampByte_bounds (beq_iff_eq.mpr h) (by omega) (by omega) _⟩

theorem mem_demands {b : LpBlock} {d : SvcId × Nat} : d ∈ b.demands ↔
    ∃ p ∈ b.pairs, p.service.toNat = d.1.val ∧ p.units.toNat = d.2 := by
  simp only [LpBlock.demands, List.mem_filterMap, Option.map_eq_some_iff, svcOfByte_eq_some]
  constructor
  · rintro ⟨p, hp, v, hv, rfl⟩
    exact ⟨p, hp, hv, rfl⟩
  · rintro ⟨p, hp, hv, hu⟩
    exact ⟨p, hp, d.1, hv, by rw [hu]⟩

theorem demands_distinct {b : LpBlock} (h : (b.pairs.map RawPair.service).Nodup) : (b.demands.map Prod.fst).Nodup := by
  have he : b.demands.map Prod.fst = (b.pairs.map RawPair.service).filterMap svcOfByte := by
    rw [LpBlock.demands, List.map_filterMap, List.filterMap_map]
    refine congrArg (List.filterMap · b.pairs) (funext fun p => ?_)
    cases hp : svcOfByte p.service <;> simp [hp]
  rw [he]
  refine h.filterMap fun x y v hx hy => ?_
  rw [Option.mem_def, svcOfByte_eq_some] at hx hy
  exact byte_eq_iff.mpr (hx.trans hy.symm)

/-- The demands of an in-use load point as held: each on a service the stored pairs name, with a unit at least. -/
theorem clampLp_demands {body : List Byte} {b : LpBlock} (h1 : b.inUse = 1) (hs : LpSound body b) :
    (∀ d ∈ (clampLp b).demands, byteAt body (21 + 7 * d.1.val) = 1 ∧ 1 ≤ d.2) ∧
    ((clampLp b).demands.map Prod.fst).Nodup := by
  obtain ⟨hsvc, hunits⟩ := clampLp_pairs h1
  refine ⟨fun d hd => ?_, demands_distinct (hsvc ▸ hs.distinct)⟩
  obtain ⟨p, hp, hv, hu⟩ := mem_demands.mp hd
  have hmem : p.service ∈ b.pairs.map RawPair.service := hsvc ▸ List.mem_map_of_mem hp
  obtain ⟨q, hq, hqs⟩ := List.mem_map.mp hmem
  have hin := hs.demanded q hq
  rw [hqs, hv] at hin
  exact ⟨hin, hu ▸ hunits p hp⟩

/-! ### Clamps and their marks -/

/-- The marks of a list of fields: those that apply and lie out of their range, with the record and the offset. -/
def outsideMarks (o : ImageObject) (inUse : Bool) (fields : List (Bool × Nat × Nat × Nat × Nat)) : List ClampMark :=
  fields.filterMap fun (applies, offset, lo, hi, value) =>
    if inUse = true ∧ applies = true ∧ (value < lo ∨ hi < value) then some (o, offset) else none

theorem outsideMarks_cons (o : ImageObject) (u a : Bool) (k lo hi v : Nat) (l : List (Bool × Nat × Nat × Nat × Nat)) :
    outsideMarks o u ((a, k, lo, hi, v) :: l) = clampMark o k (u && a) lo hi v ++ outsideMarks o u l := by
  unfold outsideMarks clampMark
  rw [List.filterMap_cons]
  dsimp only
  by_cases h : u = true ∧ a = true ∧ (v < lo ∨ hi < v)
  · obtain ⟨rfl, rfl, hv⟩ := h
    simp [hv]
  · rw [if_neg h, if_neg]
    · rfl
    · simpa [and_assoc] using h

theorem outsideMarks_nil (o : ImageObject) (u : Bool) : outsideMarks o u [] = [] := rfl

theorem stationMarks_eq (body : List Byte) : stationMarks (rawImage body) = outsideMarks .station true
    ([(true, 1, 1, 10, (byteAt body 1).toNat), (true, 3, 1, 7, (byteAt body 3).toNat)] ++
      (List.range 9).map fun k => (true, 4 + k, 0, 7, (byteAt body (4 + k)).toNat)) := by
  have hlevels : outsideMarks .station true ((List.range 9).map fun k => (true, 4 + k, 0, 7, (byteAt body (4 + k)).toNat)) =
      (List.finRange 9).flatMap fun k => clampMark .station (4 + k.val) true 0 7 (byteAt body (4 + k.val)).toNat := by
    rw [← List.map_coe_finRange_eq_range, List.map_map]
    induction List.finRange 9 with
    | nil => rfl
    | cons k ks ih =>
      rw [List.map_cons, List.flatMap_cons, ← ih]
      exact outsideMarks_cons ..
  rw [List.cons_append, List.cons_append, List.nil_append, outsideMarks_cons, outsideMarks_cons, hlevels]
  unfold stationMarks
  simp only [rawStation, Bool.and_true, List.append_assoc]

theorem clampMark_of_false (o : ImageObject) (k lo hi v : Nat) : clampMark o k false lo hi v = [] := rfl

/-- Whether a field applies, by the codes of the record. -/
theorem LpSound.applies {body : List Byte} {b : LpBlock} (hs : LpSound body b) :
    (b.mode != .paired) = decide (b.activityMode ≠ 4) ∧ b.providesOf.isSome = decide (b.provides ≠ 255) ∧
    b.isHandshake = decide (b.control = 0) ∧ (!b.isHandshake) = decide (b.control = 1) ∧
    (b.mode == .rotation) = decide (b.activityMode = 3) := by
  have h01 : ¬b.control = 0 ↔ b.control = 1 := by
    rw [byte_eq_iff (y := 1), byte_eq_iff (y := 0), show ((0 : Byte)).toNat = 0 from rfl, show ((1 : Byte)).toNat = 1 from rfl]
    have := hs.control
    omega
  have hprov : b.providesOf.isSome = true ↔ b.provides ≠ 255 := by
    have : b.provides.toNat ≤ 11 ↔ b.provides ≠ 255 :=
      ⟨fun h he => by rw [he] at h; exact absurd h (by decide), fun h => hs.provides.resolve_left h⟩
    rw [← this, LpBlock.providesOf, svcOfByte]
    split <;> simp <;> omega
  refine ⟨?_, ?_, ?_, ?_, ?_⟩ <;> rw [Bool.eq_iff_iff, decide_eq_true_eq]
  · rw [bne_iff_ne, ne_eq, LpBlock.mode, modeOf_paired]
  · exact hprov
  · exact LpBlock.isHandshake_iff
  · rw [Bool.not_eq_true', ← Bool.not_eq_true, LpBlock.isHandshake_iff, h01]
  · rw [beq_iff_eq, LpBlock.mode, modeOf_rotation]

theorem lpMarks_eq {body : List Byte} {i : LpId} {b : LpBlock} (hs : b.inUse = 1 → LpSound body b) : lpMarks i b =
    outsideMarks (.loadPoint i) (decide (b.inUse = 1))
      [(true, 7, 0, 7, b.level.toNat), (decide (b.activityMode ≠ 4), 5, 10, 7200, b.idleLimit.toNat),
        (true, 9, 0, 600, b.runOn.toNat), (true, 11, 0, 600, b.leadTime.toNat),
        (decide (b.provides ≠ 255), 14, 1, 4000, b.capacity.toNat),
        (decide (0 < b.pairCount.toNat), 19, 1, 255, b.pair0.units.toNat),
        (decide (1 < b.pairCount.toNat), 21, 1, 255, b.pair1.units.toNat),
        (decide (2 < b.pairCount.toNat), 23, 1, 255, b.pair2.units.toNat),
        (decide (b.control = 0), 25, 1, 120, b.grantTimeout.toNat),
        (true, 33, 1, 120, b.startTimeout.toNat), (true, 16, 1, 120, b.startSettle.toNat),
        (decide (b.control = 1), 26, 1, 60, b.feedbackTimeout.toNat), (true, 27, 1, 7, b.retries.toNat),
        (decide (b.activityMode = 3), 29, 10, 900, b.coastLimit.toNat),
        (decide (b.activityMode = 3), 32, 1, 15, b.standstillSamples.toNat)] := by
  simp only [outsideMarks_cons, outsideMarks_nil, List.append_nil]
  by_cases h1 : b.inUse = 1
  · obtain ⟨hidle, hcap, hgrant, hfeedback, hcoast⟩ := (hs h1).applies
    rw [lpMarks, if_pos (LpBlock.isInUse_iff.mpr h1), hidle, hcap, hfeedback, hgrant, hcoast, decide_eq_true h1]
    simp only [Bool.true_and, List.append_assoc]
  · rw [lpMarks, if_neg (mt LpBlock.isInUse_iff.mp h1), decide_eq_false h1]
    simp only [Bool.false_and, clampMark_of_false, List.append_nil]

theorem clampByte_ite {a : Bool} {p : Prop} [Decidable p] (h : a = decide p) (lo hi : Nat) (v : Byte) :
    clampByte a lo hi v = if p then clampByte true lo hi v else v := by
  by_cases hp : p <;> simp [clampByte, h, hp]

theorem clampHalf_ite {a : Bool} {p : Prop} [Decidable p] (h : a = decide p) (lo hi : Nat) (v : Half) :
    clampHalf a lo hi v = if p then clampHalf true lo hi v else v := by
  by_cases hp : p <;> simp [clampHalf, h, hp]

theorem clampPair_eq (b : LpBlock) (k : Nat) (p : RawPair) : clampPair b k p =
    if k < b.pairCount.toNat then { p with units := clampByte true 1 255 p.units } else p := by
  rw [clampPair, clampByte_ite rfl]
  split <;> rfl

/-- The record of an in-use load point as it is held, by the codes of the record. -/
theorem clampLp_of_sound {body : List Byte} {b : LpBlock} (h1 : b.inUse = 1) (hs : LpSound body b) :
    clampLp b = { b with
      level := clampByte true 0 7 b.level
      idleLimit := if b.activityMode = 4 then b.idleLimit else clampHalf true 10 7200 b.idleLimit
      runOn := clampHalf true 0 600 b.runOn
      leadTime := clampHalf true 0 600 b.leadTime
      capacity := if b.provides = 255 then b.capacity else clampHalf true 1 4000 b.capacity
      pair0 := clampPair b 0 b.pair0
      pair1 := clampPair b 1 b.pair1
      pair2 := clampPair b 2 b.pair2
      grantTimeout := if b.control = 0 then clampByte true 1 120 b.grantTimeout else b.grantTimeout
      startTimeout := clampByte true 1 120 b.startTimeout
      startSettle := clampByte true 1 120 b.startSettle
      feedbackTimeout := if b.control = 1 then clampByte true 1 60 b.feedbackTimeout else b.feedbackTimeout
      retries := clampByte true 1 7 b.retries
      coastLimit := if b.activityMode = 3 then clampHalf true 10 900 b.coastLimit else b.coastLimit
      standstillSamples := if b.activityMode = 3 then clampByte true 1 15 b.standstillSamples
        else b.standstillSamples } := by
  obtain ⟨hidle, hcap, hgrant, hfeedback, hcoast⟩ := hs.applies
  rw [clampLp_of_inUse h1, clampHalf_ite hidle, clampHalf_ite hcap, clampByte_ite hgrant, clampByte_ite hfeedback,
    clampHalf_ite hcoast, clampByte_ite hcoast]
  simp only [ite_not]

theorem clampPair_of_unmarked {o : ImageObject} {k n : Nat} {b : LpBlock} {p : RawPair}
    (h : clampMark o k (decide (n < b.pairCount.toNat)) 1 255 p.units.toNat = []) : clampPair b n p = p := by
  rw [clampPair, clampByte_of_unmarked h]

theorem clampLp_of_unmarked {i : LpId} {b : LpBlock} (h : lpMarks i b = []) : clampLp b = b := by
  by_cases h1 : b.inUse = 1
  · rw [lpMarks, if_pos (LpBlock.isInUse_iff.mpr h1)] at h
    simp only [List.append_eq_nil_iff] at h
    obtain ⟨⟨⟨⟨⟨⟨⟨⟨⟨⟨⟨⟨⟨⟨hlevel, hidle⟩, hrunOn⟩, hlead⟩, hcap⟩, h0⟩, h1'⟩, h2⟩, hgrant⟩, hstart⟩, hsettle⟩, hfeedback⟩,
      hretries⟩, hcoast⟩, hsamples⟩ := h
    rw [clampLp_of_inUse h1, clampByte_of_unmarked hlevel, clampHalf_of_unmarked hidle, clampHalf_of_unmarked hrunOn,
      clampHalf_of_unmarked hlead, clampHalf_of_unmarked hcap, clampPair_of_unmarked h0, clampPair_of_unmarked h1',
      clampPair_of_unmarked h2, clampByte_of_unmarked hgrant, clampByte_of_unmarked hstart,
      clampByte_of_unmarked hsettle, clampByte_of_unmarked hfeedback, clampByte_of_unmarked hretries,
      clampHalf_of_unmarked hcoast, clampByte_of_unmarked hsamples]
  · exact clampLp_of_unused h1

theorem clampService_of_unmarked {v : SvcId} {b : ServiceBlock} (h : serviceMarks v b = []) :
    clampService b = if b.inUse = 1 then b else serviceBlank := by
  by_cases h1 : b.inUse = 1
  · have hu : (b.inUse == 1) = true := beq_iff_eq.mpr h1
    rw [serviceMarks, hu] at h
    simp only [List.append_eq_nil_iff] at h
    obtain ⟨⟨hmargin, hhold⟩, hconfirm⟩ := h
    rw [clampService_of_inUse h1, if_pos h1, clampByte_of_unmarked hmargin, clampHalf_of_unmarked hhold,
      clampByte_of_unmarked hconfirm]
  · rw [clampService_of_unused h1, if_neg h1]

theorem serviceMarks_eq (v : SvcId) (b : ServiceBlock) : serviceMarks v b =
    outsideMarks (.service v) (decide (b.inUse = 1)) [(true, 1, 0, 100, b.margin.toNat),
      (true, 4, 10, 3600, b.surplusHold.toNat), (true, 6, 1, 60, b.shortfallConfirm.toNat)] := by
  simp only [outsideMarks_cons, outsideMarks_nil, List.append_nil, Bool.and_true, serviceMarks, List.append_assoc]
  rfl

theorem planMarks_eq (p : PlanBlock) : planMarks p = outsideMarks .plan true
    [(true, 2, 100, 2000, p.w.toNat), (true, 4, 100, 2000, p.g.toNat), (true, 6, 1, 1023, p.b.toNat)] := by
  simp only [outsideMarks_cons, outsideMarks_nil, List.append_nil, Bool.and_true, planMarks, List.append_assoc]

/-- Settles O8. -/
theorem acceptedImagesAreSound : Obligations.AcceptedImagesAreSound := by
  refine ⟨fun sum body station c marks h => ?_, fun sum body station c h => ?_, ?_⟩
  · obtain ⟨⟨h0, h60, hfollow⟩, hplan, hsvc, hlp, hcross⟩ := checks_of_accepted h
    obtain ⟨-, -, -, rfl, rfl, -⟩ := accepted_cases h
    rw [clampStation_eq]
    refine ⟨⟨_, rfl, isStation_of_range h0 h60⟩, clampByte_bounds rfl (by omega) (by omega) _,
      clampByte_bounds rfl (by omega) (by omega) _, fun k => ?_, hfollow, hplan,
      clampHalf_bounds rfl (by omega) (by omega) _, clampHalf_bounds rfl (by omega) (by omega) _,
      clampHalf_bounds rfl (by omega) (by omega) _, fun v => ⟨hsvc v, ?_⟩, fun i => ?_, fun i h1 => ?_⟩
    · rw [Fin.getElem_fin, Vector.getElem_ofFn]
      exact (clampByte_bounds rfl (by omega) (by omega) _).2
    · rw [clampImage_services, clampService_inUse_iff]
      refine ⟨Iff.rfl, fun hu => ?_, fun hu => clampService_of_unused (mt (clampService_inUse_iff _).mpr hu)⟩
      rw [clampService_of_inUse hu]
      obtain ⟨hhold, hhold'⟩ := clampHalf_bounds rfl (by omega : 10 ≤ 3600) (by omega)
        (serviceAt body (21 + 7 * v.val)).surplusHold
      exact ⟨(clampByte_bounds rfl (by omega) (by omega) _).2, hhold, hhold',
        clampByte_bounds rfl (by omega) (by omega) _⟩
    · obtain ⟨huse, hsound⟩ := lpSound_of_checks (hlp i)
      simp only [clampImage_lps, clampLp_inUse, clampLp_control, clampLp_activityMode, clampLp_edge,
        clampLp_loadPolarity, clampLp_reportOnExhaust, clampLp_leader, clampLp_provides]
      refine ⟨huse, fun h1 => ?_⟩
      have hs := hsound h1
      refine ⟨hs.control, hs.mode, hs.report, hs.edge, hs.polarity, hs.leader, hs.provides, fun p hp => ?_⟩
      have hmem : p.service ∈ (lpAt body i).pairs.map RawPair.service :=
        (clampLp_pairs h1).1 ▸ List.mem_map_of_mem hp
      obtain ⟨q, hq, hqs⟩ := List.mem_map.mp hmem
      exact hqs ▸ hs.pairs q hq
    · rw [clampImage_lps, clampLp_inUse] at h1
      have hs := (lpSound_of_checks (hlp i)).2 h1
      obtain ⟨hlevel, hrunOn, hlead, hstart, hsettle, hretries, hidle, hgrant, hfeedback, hcoast, hcap⟩ := clampLp_ranges h1
      obtain ⟨hdemands, hdistinct⟩ := clampLp_demands h1 hs
      simp only [clampImage_lps, clampImage_services, clampService_inUse_iff, clampLp_inUse, clampLp_control,
        clampLp_mode, clampLp_leaderOf, clampLp_providesOf, clampLp_pairCount]
      refine ⟨hlevel, hrunOn, hlead, hstart, hsettle, hretries, hidle, hgrant, hfeedback, hcoast, fun v hv => ?_,
        hdemands, hdistinct, hs.count, cross_of_checks (hcross i) h1⟩
      have hval := svcOfByte_eq_some.mp hv
      refine ⟨?_, hcap (by rw [hv]; rfl)⟩
      have hin := hs.provided (by omega)
      rw [hval] at hin
      exact hin
  · obtain ⟨-, -, -, -, rfl, hmarks⟩ := accepted_cases h
    have hnil := hmarks.symm
    simp only [imageMarks, planMarks, List.append_eq_nil_iff, List.flatMap_eq_nil_iff] at hnil
    obtain ⟨⟨⟨-, ⟨hw, hg⟩, hb⟩, hsvc⟩, hlp⟩ := hnil
    refine ⟨?_, fun i => ?_, fun v => ?_⟩
    · rw [clampImage, clampPlan, clampHalf_of_unmarked hw, clampHalf_of_unmarked hg, clampHalf_of_unmarked hb]
      rfl
    · rw [clampImage_lps]
      exact clampLp_of_unmarked (rawImage_lps body i ▸ hlp i (mem_lpIds i))
    · rw [clampImage_services]
      exact clampService_of_unmarked (rawImage_services body v ▸ hsvc v (mem_svcIds v))
  · intro sum body station c marks h
    obtain ⟨-, -, -, hlp, -⟩ := checks_of_accepted h
    obtain ⟨-, -, -, hstation, hconfig, hmarks⟩ := accepted_cases h
    rw [hstation, hconfig, hmarks]
    intro held service units outside
    have hsound := fun i => (lpSound_of_checks (hlp i)).2
    have hbyte : ∀ lo hi (x : Byte), clampByte true lo hi x = held lo hi x := fun _ _ _ => rfl
    have hhalf : ∀ lo hi (x : Half), clampHalf true lo hi x = held lo hi x := fun _ _ _ => rfl
    refine ⟨?_, ?_, fun v hu => ?_, ?_, ?_⟩
    · simp only [clampStation_eq, hbyte]
    · rw [clampImage, clampPlan, hhalf, hhalf, hhalf]
      rfl
    · rw [clampImage_services, clampService_of_inUse hu, hbyte, hbyte, hhalf]
    · intro i b
      rw [clampImage_lps]
      refine ⟨fun h1 => clampLp_of_unused h1, fun h1 => ?_⟩
      rw [clampLp_of_sound h1 (hsound i h1)]
      simp only [clampPair_eq, hbyte, hhalf]
      rfl
    · rw [imageMarks, stationMarks_eq, planMarks_eq]
      refine congrArg₂ (· ++ ·) (congrArg₂ (· ++ ·) rfl ?_) ?_
      · refine congrArg svcIds.flatMap (funext fun v => ?_)
        rw [rawImage_services, serviceMarks_eq]
        rfl
      · refine congrArg lpIds.flatMap (funext fun i => ?_)
        rw [rawImage_lps, lpMarks_eq (hsound i)]
        rfl

end Sys2Proof.Machine
end

section
/-! PROOFS, the setback link (chapter 4): the waiting set, attempts and backoffs, receptions and the CRC. -/

namespace Sys2Proof.Machine

/-! ### The next frame (R72, R73) -/

section
variable {l : Link} (h : l.inProgress = none)
include h

theorem takeNext_page {p : OutFrame} {ps : List OutFrame} (hp : l.pagesLeft = p :: ps) :
    l.takeNext = { l with pagesLeft := ps }.begin p := by
  unfold Link.takeNext
  rw [if_neg (by rw [h]; exact Bool.false_ne_true), hp]

theorem takeNext_intent {f : OutFrame} (hp : l.pagesLeft = []) (hi : l.waitIntent = some f) :
    l.takeNext = { l with waitIntent := none }.begin f := by
  unfold Link.takeNext
  rw [if_neg (by rw [h]; exact Bool.false_ne_true), hp, hi]

theorem takeNext_reply {f : OutFrame} (hp : l.pagesLeft = []) (hi : l.waitIntent = none) (hr : l.waitReply = some f) :
    l.takeNext = { l with waitReply := none }.begin f := by
  unfold Link.takeNext
  rw [if_neg (by rw [h]; exact Bool.false_ne_true), hp, hi, hr]

theorem takeNext_announcement {p : OutFrame} {ps : List OutFrame} (hp : l.pagesLeft = []) (hi : l.waitIntent = none)
    (hr : l.waitReply = none) (ha : l.waitPages = p :: ps) :
    l.takeNext = { l with waitPages := [], pagesLeft := ps }.begin p := by
  unfold Link.takeNext
  rw [if_neg (by rw [h]; exact Bool.false_ne_true), hp, hi, hr, ha]

theorem takeNext_beacon {f : OutFrame} (hp : l.pagesLeft = []) (hi : l.waitIntent = none) (hr : l.waitReply = none)
    (ha : l.waitPages = []) (hb : l.waitBeacon = some f) : l.takeNext = { l with waitBeacon := none }.begin f := by
  unfold Link.takeNext
  rw [if_neg (by rw [h]; exact Bool.false_ne_true), hp, hi, hr, ha, hb]

end

theorem takeNext_cases (l : Link) : l.takeNext = l ∨ ∃ t, l.takeNext.inProgress = some t := by
  unfold Link.takeNext
  split
  · exact .inl rfl
  · split
    case h_6 => exact .inl rfl
    all_goals exact .inr ⟨_, rfl⟩

/-- With the next frame taken there is none to take. -/
theorem takeNext_takeNext (l : Link) : l.takeNext.takeNext = l.takeNext := by
  rcases takeNext_cases l with h | ⟨t, h⟩
  · rw [h, h]
  · exact takeNext_of_inProgress _ h

/-- Settles O26. -/
theorem framesAreTakenInGroupOrder : Obligations.FramesAreTakenInGroupOrder := by
  intro l h
  refine ⟨fun p ps hp => ?_, fun hp f hi => ?_, fun hp hi f hr => ?_, fun hp hi hr p ps ha => ?_,
    fun hp hi hr ha f hb => ?_, fun t ht => takeNext_fresh l h ht⟩
  · rw [takeNext_page h hp]
    exact ⟨rfl, rfl⟩
  · rw [takeNext_intent h hp hi]
    exact ⟨rfl, rfl⟩
  · rw [takeNext_reply h hp hi hr]
    exact ⟨rfl, rfl⟩
  · rw [takeNext_announcement h hp hi hr ha]
    exact ⟨rfl, rfl, rfl⟩
  · rw [takeNext_beacon h hp hi hr ha hb]
    exact ⟨rfl, rfl⟩

/-! ### Attempts and backoffs (R67, R73 to R77) -/

theorem rephase_of_inProgress {l : Link} {f : Sending} (h : l.inProgress = some f) (g : TxPhase → TxPhase) :
    l.rephase g = { l with inProgress := some { f with phase := g f.phase } } := by
  rw [Link.rephase, h]
  rfl

theorem backoffFrom_eq (idle : Bool) (slots : Nat) : backoffFrom idle slots =
    if slots ≠ 0 then .backingOff (.running (slots * 1024)) else if idle = true then .sending else .waiting := by
  unfold backoffFrom
  split
  case isTrue h => exact (if_neg (not_not.mpr h)).symm
  case isFalse h => rfl

theorem exec_ownStart_idle {s : State} (h : s.link.inProgress = none) : exec (.attemptStart .own) s = .next s := by
  refine congrArg Host.Outcome.next ?_
  unfold ownStarts
  rw [h]

theorem exec_ownStart {s : State} {f : Sending} (h : s.link.inProgress = some f) : exec (.attemptStart .own) s = .next
    (if f.phase = .waiting ∧ s.link.lineIdle = true then
      s.withLink { s.link with lineIdle := false, inProgress := some { f with phase := .sending } } else s) := by
  refine congrArg Host.Outcome.next ?_
  dsimp only
  unfold ownStarts
  rw [h]
  dsimp only
  split
  · exact congrArg s.withLink (rephase_of_inProgress (l := { s.link with lineIdle := false }) h _)
  · rfl

theorem exec_backoffExpiry {s : State} {f : Sending} {us : Timer} (h : s.link.inProgress = some f)
    (hp : f.phase = .backingOff us) : exec .backoffExpiry s = .next (s.withLink { s.link with
      lineIdle := false,
      inProgress := some { f with phase := if s.link.lineIdle then .sending else .waiting } }) := by
  obtain ⟨out, phase, attempts⟩ := f
  subst hp
  refine congrArg Host.Outcome.next ?_
  dsimp only
  rw [h]
  rfl

/-- A lost attempt below the eighth. -/
theorem exec_lost {s : State} {f : Sending} {loss : Loss} {draw : BitVec 5} (h : s.link.inProgress = some f)
    (hp : f.phase = .sending) (hn : f.attempts < 7) : exec (.lostContention loss draw) s = .next
      (s.withLink { s.link.lost loss with
        lineIdle := leavesIdle loss && phaseAfterLoss loss (drawnSlots (f.attempts + 1) draw) != .sending,
        inProgress := some { f with
          attempts := f.attempts + 1, phase := phaseAfterLoss loss (drawnSlots (f.attempts + 1) draw) } }) := by
  refine congrArg Host.Outcome.next ?_
  dsimp only
  rw [h]
  dsimp only
  rw [if_pos hp, if_neg (by omega)]
  rfl

theorem phaseAfterLoss_eq (loss : Loss) (slots : Nat) : phaseAfterLoss loss slots =
    if loss = .toSender then .lostAwaitingEnd slots
    else if slots ≠ 0 then .backingOff (.running (slots * 1024))
    else if loss = .startUndriven then .sending else .waiting := by
  cases loss <;> simp [phaseAfterLoss, backoffFrom_eq, leavesIdle]

/-- The link as the line becomes idle. -/
def Link.idled (l : Link) : Link :=
  match l.inProgress with
  | some { phase := .lostAwaitingIdle n, .. } =>
    { l with lineIdle := n ≠ 0, collecting := false, awaitIdle := false }.rephase fun _ => backoffFrom true n
  | _ => { l with lineIdle := !l.isSending, collecting := false, awaitIdle := false }

theorem exec_lineIdle (s : State) : exec .lineIdle s = .next (s.withLink s.link.idled) := rfl

theorem idled_of_none {l : Link} (h : l.inProgress = none) :
    l.idled = { l with lineIdle := true, collecting := false, awaitIdle := false } := by
  unfold Link.idled Link.isSending
  rw [h]
  rfl

theorem idled_of_waitingIdle {l : Link} {f : Sending} {n : Nat} (h : l.inProgress = some f)
    (hp : f.phase = .lostAwaitingIdle n) : l.idled = { l with
      lineIdle := decide (n ≠ 0), collecting := false, awaitIdle := false
      inProgress := some { f with phase := if n = 0 then .sending else .backingOff (.running (n * 1024)) } } := by
  obtain ⟨out, phase, attempts⟩ := f
  subst hp
  unfold Link.idled
  rw [h]
  rfl

theorem idled_of_other {l : Link} {f : Sending} (h : l.inProgress = some f) (hp : ∀ n, f.phase ≠ .lostAwaitingIdle n) :
    l.idled = { l with lineIdle := f.phase != .sending, collecting := false, awaitIdle := false } := by
  unfold Link.idled
  split
  case h_1 n hf =>
    cases h.symm.trans hf
    exact absurd rfl (hp _)
  case h_2 =>
    unfold Link.isSending
    rw [h]
    rfl

/-- Settles O27. -/
theorem attemptsStartAndBackOff : Obligations.AttemptsStartAndBackOff := by
  refine ⟨fun s f h => ⟨fun hp hl => ?_, fun hno => ?_, fun us hp => exec_backoffExpiry h hp⟩,
    fun s h => exec_ownStart_idle h, fun s => rfl, fun s f loss draw h hp hn => ?_, fun s => ?_⟩
  · rw [exec_ownStart h, if_pos ⟨hp, hl⟩]
  · rw [exec_ownStart h, if_neg]
    rintro ⟨hp, hl⟩
    rcases hno with hno | hno
    · exact hno hp
    · rw [hno] at hl
      cases hl
  · refine ⟨_, drawnSlots (f.attempts + 1) draw, exec_lost h hp hn, Nat.mod_lt _ (Nat.two_pow_pos _), rfl, ?_⟩
    have hidle : (leavesIdle loss && phaseAfterLoss loss (drawnSlots (f.attempts + 1) draw) != .sending) =
        decide (loss = Loss.startUndriven ∧ drawnSlots (f.attempts + 1) draw ≠ 0) := by
      rw [phaseAfterLoss_eq]
      cases loss <;> by_cases hz : drawnSlots (f.attempts + 1) draw = 0 <;> simp [leavesIdle, hz]
    have hdriven : (!leavesIdle loss) = decide (loss ≠ Loss.startUndriven) := by cases loss <;> rfl
    rw [hidle, phaseAfterLoss_eq, Link.lost, hdriven]
    rfl
  · refine ⟨_, exec_lineIdle s, rfl, fun h => idled_of_none h, fun f h hp => ?_, fun f n h hp => idled_of_waitingIdle h hp,
      fun f h hp hn => ?_⟩
    · exact (idled_of_other h (by rw [hp]; nofun)).trans (by rw [hp]; rfl)
    · exact (idled_of_other h hn).trans (by rw [bne_iff_ne.mpr hp])

/-! ### The CRC (section 4.2) -/

/-- Settles O31. -/
theorem crcOfTheManual : Obligations.CrcOfTheManual := by
  refine ⟨by decide, fun bytes x => ?_, fun r x => rfl, fun r b => rfl, by decide⟩
  rw [crc, List.foldl_append]
  rfl

end Sys2Proof.Machine
end

section
/-! PROOFS, outcomes of the own frames and receptions (chapters 4, 5 and 7): the eighth loss, a completed frame, and
what the receiver does not take in. -/

namespace Sys2Proof.Machine

/-! ### What a frame's outcome tells its block (R90, R121, R126) -/

/-- The outcome of a beacon that calls for an announcement hands it. -/
abbrev State.announces (s : State) (o : Origin) : Prop := o = .beacon true ∧ s.beaconing = true ∧ s.link.waitPages = []

theorem announce_eq {s : State} (h : s.link.inProgress = none) : announce s =
    if s.beaconing = true ∧ s.link.waitPages = [] then
      (s.withLink { s.link with waitPages := s.announcement }.takeNext).withMode { s.mode with toggle := !s.mode.toggle }
    else s := by
  have hguard : (s.beaconing && !s.link.announcementUnbegun) = true ↔ s.beaconing = true ∧ s.link.waitPages = [] := by
    simp [Link.announcementUnbegun, h]
  unfold announce
  by_cases hc : s.beaconing = true ∧ s.link.waitPages = []
  · rw [if_pos hc, if_pos (hguard.mpr hc)]
  · rw [if_neg hc, if_neg (mt hguard.mp hc)]

/-- A beacon's outcome while no frame is in progress. -/
theorem beaconOutcome_eq {s : State} (h : s.link.inProgress = none) (triggers : Bool) : beaconOutcome triggers s =
    (s.withLink (if s.announces (.beacon triggers) then { s.link with waitPages := s.announcement }.takeNext
      else s.link)).withMode { s.mode with
        toggle := if s.announces (.beacon triggers) then !s.mode.toggle else s.mode.toggle } := by
  unfold beaconOutcome
  cases triggers with
  | false =>
    have hno : ¬s.announces (.beacon false) := fun hc => nomatch hc.1
    rw [if_neg hno, if_neg hno]
    rfl
  | true =>
    rw [if_pos rfl, announce_eq h]
    by_cases hc : s.beaconing = true ∧ s.link.waitPages = []
    · rw [if_pos hc, if_pos ⟨rfl, hc⟩, if_pos ⟨rfl, hc⟩]
    · have hno : ¬s.announces (.beacon true) := fun h => hc h.2
      rw [if_neg hc, if_neg hno, if_neg hno]
      rfl

theorem not_announces {s : State} {o : Origin} (h : ∀ b, o ≠ .beacon b) : ¬s.announces o := fun hc => h true hc.1

/-- The block that handed an abandoned frame hears of it. -/
theorem reportAbandoned_eq {s : State} (h : s.link.inProgress = none) (o : Origin) : reportAbandoned o s =
    ((s.withLink (if s.announces o then { s.link with waitPages := s.announcement }.takeNext else s.link)).withRound
      { s.round with outstanding := if o = .intent then none else s.round.outstanding }).withMode
      { s.mode with toggle := if s.announces o then !s.mode.toggle else s.mode.toggle } := by
  cases o with
  | beacon triggers =>
    refine (beaconOutcome_eq h triggers).trans ?_
    rw [if_neg (c := Origin.beacon triggers = .intent) nofun]
    rfl
  | intent =>
    have hno : ¬s.announces .intent := not_announces fun b => nofun
    rw [if_neg hno, if_neg hno, if_pos rfl]
    rfl
  | page k =>
    have hno : ¬s.announces (.page k) := not_announces fun b => nofun
    rw [if_neg hno, if_neg hno, if_neg (c := Origin.page k = .intent) nofun]
    rfl
  | reply =>
    have hno : ¬s.announces .reply := not_announces fun b => nofun
    rw [if_neg hno, if_neg hno, if_neg (c := Origin.reply = .intent) nofun]
    rfl

/-! ### Isolation (R81, R122, R149) -/

/-- The link without the INTENT frame, before the next frame is taken. -/
def Link.withoutIntent (l : Link) : Link :=
  { l with waitIntent := none, inProgress := l.inProgress.filter fun g => g.out.origin ≠ .intent }

/-- The INTENT frame leaves progress, where it is the frame in progress. -/
theorem dropIntent_eq (l : Link) : (match l.inProgress with
    | some t => if t.out.origin = Origin.intent then { l with inProgress := none } else l
    | none => l) = { l with inProgress := l.inProgress.filter fun g => g.out.origin ≠ .intent } := by
  obtain ⟨p⟩ := l
  cases p with
  | none => rfl
  | some t => by_cases ho : t.out.origin = .intent <;> simp [Option.filter_some, ho]

theorem recallIntent_eq (s : State) : recallIntent s =
    (s.withLink s.link.withoutIntent.takeNext).withRound { s.round with outstanding := none } :=
  congrArg (fun l : Link => (s.withLink (Link.takeNext { l with waitIntent := none })).withRound
    { s.round with outstanding := none }) (dropIntent_eq s.link)

theorem enterIsolated_eq (s : State) : enterIsolated s =
    (((s.withLink { s.link with latch := true, heard := false }.withoutIntent.takeNext).withRound
      { s.round with outstanding := none }).withMode { s.mode with isolated := true }).withFaults
      { s.faults with flags := s.faults.flags ||| EventClass.isolated.bit } := by
  unfold enterIsolated
  dsimp only
  rw [recallIntent_eq]
  rfl

/-! ### The eighth lost attempt (R76, R81) -/

theorem exec_lost_eighth {s : State} {f : Sending} {loss : Loss} {draw : BitVec 5} (h : s.link.inProgress = some f)
    (hp : f.phase = .sending) (hn : f.attempts = 7) : exec (.lostContention loss draw) s = .next
      (abandon { f with attempts := 8 } (s.withLink (s.link.lost loss))) := by
  refine congrArg Host.Outcome.next ?_
  dsimp only
  rw [h]
  dsimp only
  rw [if_pos hp, hn, if_pos (by omega)]

/-- The link as a frame is abandoned, before its block hears of it. -/
def Link.abandoned (l : Link) (o : Origin) : Link :=
  { l with
    inProgress := none
    pagesLeft := (match o with
      | .page _ => []
      | _ => l.pagesLeft)
    abandonRun := l.abandonRun + 1
    counters := { l.counters with abandoned := min 65535 (l.counters.abandoned + 1) } }

theorem abandon_eq (t : Sending) (s : State) : abandon t s =
    (let u := reportAbandoned t.out.origin (s.withLink (s.link.abandoned t.out.origin))
     let v := if u.assessesIsolation && !u.mode.isolated && decide (3 ≤ u.link.abandonRun) then enterIsolated u else u
     settle (v.withLink v.link.takeNext)) := by
  have hl : s.link.abandoned t.out.origin = { s.link with
      inProgress := none
      pagesLeft := if (match t.out.origin with
        | .page _ => true
        | _ => false) = true then [] else s.link.pagesLeft
      abandonRun := s.link.abandonRun + 1
      counters := { s.link.counters with abandoned := countUp s.link.counters.abandoned } } := by
    unfold Link.abandoned
    cases t.out.origin <;> rfl
  rw [hl]
  rfl

/-- Settles O28. -/
theorem eighthLossAbandons : Obligations.EighthLossAbandons := by
  intro s f loss draw h hp hn announces isolates left told alone
  have hleft : (s.link.lost loss).abandoned f.out.origin = left := by
    unfold Link.abandoned
    cases loss <;> rfl
  have hreport : reportAbandoned f.out.origin (s.withLink left) = ((s.withLink told).withRound
      { s.round with outstanding := if f.out.origin = .intent then none else s.round.outstanding }).withMode
      { s.mode with toggle := if announces then !s.mode.toggle else s.mode.toggle } :=
    reportAbandoned_eq rfl f.out.origin
  have hrun : told.abandonRun = s.link.abandonRun + 1 := by
    unfold told
    split
    · exact takeNext_abandonRun _
    · rfl
  rw [exec_lost_eighth h hp hn, abandon_eq]
  have he : (s.withLink (s.link.lost loss)).withLink ((s.withLink (s.link.lost loss)).link.abandoned f.out.origin) =
      s.withLink left := congrArg s.withLink hleft
  dsimp only
  rw [he, hreport]
  have hguard : (s.beaconing && !s.mode.isolated && decide (3 ≤ told.abandonRun)) = true ↔ isolates := by
    rw [hrun]
    simp only [Bool.and_eq_true, Bool.not_eq_true', decide_eq_true_eq, and_assoc, isolates]
    exact and_congr_right' (and_congr_right' Nat.succ_le_succ_iff)
  by_cases hi : isolates
  · have halone : alone = { told with latch := true, heard := false }.withoutIntent := if_pos hi
    rw [if_pos (by exact hguard.mpr hi), enterIsolated_eq]
    refine ⟨_, rfl, ?_, ?_, ?_, ?_, rfl⟩
    · rw [halone]
      exact takeNext_takeNext _
    · exact congrArg (fun o => { s.round with outstanding := o }) (if_pos (Or.inr hi)).symm
    · rw [decide_eq_true hi, Bool.or_true]
      rfl
    · rw [if_pos hi]
      rfl
  · have halone : alone = told := if_neg hi
    rw [if_neg (by exact mt hguard.mp hi)]
    refine ⟨_, rfl, ?_, ?_, ?_, ?_, rfl⟩
    · rw [halone]
      rfl
    · simp only [hi, or_false]
      rfl
    · rw [decide_eq_false hi, Bool.or_false]
      rfl
    · rw [if_neg hi]
      rfl

/-! ### A completed frame (R74, R76, R82, R126) -/

/-- The entry of the round list that stands for a queued entry of the station's own. -/
abbrev QueueEntry.listed (own : Byte) (q : QueueEntry) : ListEntry :=
  { station := own, entry := q.entry, own := some q.serial }

/-- The own entries taken into the list one after another: as many as it has room for, the others counted. -/
theorem foldl_enterOwn (own : Byte) : ∀ (qs : List QueueEntry) (r : Round), r.refused ≤ 255 →
    qs.foldl (fun r q => r.enterOwn (q.listed own)) r = { r with
      list := r.list ++ (qs.take (24 - r.list.length)).map (QueueEntry.listed own)
      refused := min 255 (r.refused + (qs.length - (24 - r.list.length))) }
  | [], r, h => by simp [Nat.min_eq_right h]
  | q :: qs, r, h => by
    rw [List.foldl_cons, Round.enterOwn]
    by_cases hroom : r.list.length < listCapacity
    · have hlt : r.list.length < 24 := hroom
      obtain ⟨k, hk⟩ : ∃ k, 24 - r.list.length = k + 1 := ⟨23 - r.list.length, by omega⟩
      have hk' : 24 - (r.list ++ [q.listed own]).length = k := by rw [List.length_append, List.length_singleton]; omega
      rw [if_pos hroom, foldl_enterOwn own qs { r with list := r.list ++ [q.listed own] } h]
      dsimp only
      rw [hk, hk', List.take_succ_cons, List.map_cons, List.append_assoc, List.length_cons, Nat.add_sub_add_right]
      rfl
    · have hk : 24 - r.list.length = 0 := by
        have : ¬r.list.length < 24 := hroom
        omega
      rw [if_neg hroom, foldl_enterOwn own qs { r with refused := satSucc 255 r.refused } (Nat.min_le_left _ _)]
      dsimp only
      rw [hk, List.take_zero, List.take_zero, List.length_cons, satSucc]
      have : min 255 (min 255 (r.refused + 1) + (qs.length - 0)) = min 255 (r.refused + (qs.length + 1 - 0)) := by omega
      rw [this]

/-- The station as its frame completes, before the block that handed it hears of it. -/
def State.completed (s : State) : State :=
  (s.withLink { s.link with
    inProgress := none, abandonRun := 0, lineIdle := false, heard := s.link.heard && !s.mode.isolated }).withMode
    { s.mode with isolated := s.mode.isolated && !s.link.heard }

theorem exec_frameCompleted {s : State} {f : Sending} (h : s.link.inProgress = some f) (hp : f.phase = .sending) :
    exec .frameCompleted s = .next (settle ((reportCompleted f.out.origin s.completed).withLink
      (reportCompleted f.out.origin s.completed).link.takeNext)) := by
  have hheard : (let t := s.withLink { s.link with inProgress := none, abandonRun := 0, lineIdle := false }
      if t.mode.isolated && t.link.heard then leaveIsolated t else t) = s.completed := by
    unfold State.completed
    cases hi : s.mode.isolated with
    | false =>
      refine (if_neg fun hc => ?_).trans ?_
      · exact Bool.false_ne_true (hi ▸ (Bool.and_eq_true_iff.mp hc).1)
      · rw [Bool.not_false, Bool.and_true, Bool.false_and, ← hi]
        rfl
    | true =>
      cases hh : s.link.heard with
      | false =>
        refine (if_neg fun hc => ?_).trans ?_
        · exact Bool.false_ne_true (hh ▸ (Bool.and_eq_true_iff.mp hc).2)
        · rw [Bool.false_and, Bool.not_false, Bool.and_true, ← hi, ← hh]
          rfl
      | true => exact if_pos (Bool.and_eq_true_iff.mpr ⟨hi, hh⟩)
  refine congrArg Host.Outcome.next ?_
  rw [← hheard]
  dsimp only
  rw [h]
  dsimp only
  rw [if_pos hp]

theorem ownIntentTaken_guarding {s : State} {qs : List QueueEntry} (h : s.round.outstanding = some qs)
    (hg : s.round.phase = .guarding) :
    ownIntentTaken s = countMissedRound (s.withRound { s.round with outstanding := none }) := by
  unfold ownIntentTaken
  rw [h]
  exact if_pos hg

/-- The own INTENT frame is taken into a round that is not in GUARD. -/
theorem ownIntentTaken_open {s : State} {qs : List QueueEntry} (h : s.round.outstanding = some qs)
    (hg : s.round.phase ≠ .guarding) (hr : s.round.refused ≤ 255) : ownIntentTaken s = s.withRound { s.round with
      outstanding := none
      phase := .opened
      window := if s.round.phase = .closed then .running (s.planW * 1000) else s.round.window
      join := true
      heard := min 255 (s.round.heard + qs.length)
      list := s.round.list ++ (qs.take (24 - s.round.list.length)).map (QueueEntry.listed s.ownAddress)
      refused := min 255 (s.round.refused + (qs.length - (24 - s.round.list.length))) } := by
  unfold ownIntentTaken
  rw [h]
  refine (if_neg hg).trans ?_
  rw [openIfClosed_eq _ (by exact hg)]
  refine congrArg s.withRound ?_
  exact foldl_enterOwn s.ownAddress qs _ (by exact hr)

/-- A block that is told of a completed frame and does nothing. -/
theorem reportCompleted_quiet {s : State} {o : Origin} (hb : ∀ b, o ≠ .beacon b)
    (hi : o ≠ .intent ∨ s.round.outstanding = none) : reportCompleted o s = s := by
  cases o with
  | beacon b => exact absurd rfl (hb b)
  | intent =>
    unfold reportCompleted ownIntentTaken
    rw [hi.resolve_left (not_not.mpr rfl)]
  | page k => rfl
  | reply => rfl

/-- Settles O29. -/
theorem completedFrames : Obligations.CompletedFrames := by
  intro s f h hp announces misses left
  refine ⟨_, exec_frameCompleted h hp, ?_⟩
  have hannounce : s.completed.announces f.out.origin ↔ announces := Iff.rfl
  by_cases hb : ∃ b, f.out.origin = .beacon b
  · obtain ⟨b, hb⟩ := hb
    have hm : ¬misses := fun hc => nomatch hb.symm.trans hc.1
    have hr : reportCompleted f.out.origin s.completed =
        (s.completed.withLink (if s.completed.announces f.out.origin then
          { s.completed.link with waitPages := s.completed.announcement }.takeNext else s.completed.link)).withMode
          { s.completed.mode with
            toggle := if s.completed.announces f.out.origin then !s.mode.toggle else s.mode.toggle } := by
      rw [hb]
      exact beaconOutcome_eq rfl b
    have hleft : left = { s.completed.link with
        waitPages := if announces then s.announcement else s.link.waitPages } := by
      unfold left
      rw [if_neg hm]
      rfl
    rw [hr, hleft]
    refine ⟨?_, rfl, fun _ => rfl, fun qs hi => nomatch hb.symm.trans hi⟩
    by_cases ha : announces
    · rw [if_pos (hannounce.mpr ha), if_pos ha]
      exact takeNext_takeNext _
    · rw [if_neg (mt hannounce.mp ha), if_neg ha]
      rfl
  · have hb' : ∀ b, f.out.origin ≠ .beacon b := fun b hc => hb ⟨b, hc⟩
    have ha : ¬announces := fun hc => hb' true hc.1
    by_cases hi : f.out.origin = .intent ∧ s.round.outstanding.isSome = true
    · obtain ⟨hi, hout⟩ := hi
      obtain ⟨qs, hqs⟩ := Option.isSome_iff_exists.mp hout
      have hsame : ∀ qs', s.round.outstanding = some qs' → qs' = qs := fun qs' hq => Option.some.inj (hq.symm.trans hqs)
      have hr : reportCompleted f.out.origin s.completed = ownIntentTaken s.completed := by rw [hi]; rfl
      rw [hr]
      by_cases hg : s.round.phase = .guarding
      · have hm : misses := ⟨hi, hout, hg⟩
        rw [ownIntentTaken_guarding (by exact hqs) (by exact hg)]
        refine ⟨?_, ?_, fun hc => ?_, fun qs' _ hq => ⟨fun _ => rfl, fun hn => absurd hg hn⟩⟩
        · unfold left
          rw [if_neg ha, if_pos hm]
          rfl
        · rw [if_neg ha]
          rfl
        · exact hc.elim (absurd hi) fun hn => nomatch hn.symm.trans hqs
      · have hm : ¬misses := fun hc => hg hc.2.2
        obtain ⟨r, hr⟩ : ∃ r, ownIntentTaken s.completed = s.completed.withRound r := by
          unfold ownIntentTaken
          rw [show s.completed.round.outstanding = _ from hqs]
          exact ⟨_, if_neg hg⟩
        refine ⟨?_, ?_, fun hc => ?_, fun qs' _ hq => ⟨fun hg' => absurd hg' hg, fun _ h255 => ?_⟩⟩
        · unfold left
          rw [hr, if_neg ha, if_neg hm]
          rfl
        · rw [hr, if_neg ha]
          rfl
        · exact hc.elim (absurd hi) fun hn => nomatch hn.symm.trans hqs
        · rw [hsame qs' hq, ownIntentTaken_open (by exact hqs) (by exact hg) (by exact h255)]
          rfl
    · have hm : ¬misses := fun hc => hi ⟨hc.1, hc.2.1⟩
      have hno : f.out.origin ≠ .intent ∨ s.completed.round.outstanding = none := by
        refine or_iff_not_imp_left.mpr fun ho => Option.not_isSome_iff_eq_none.mp fun hs => hi ⟨not_not.mp ho, hs⟩
      rw [reportCompleted_quiet hb' hno]
      refine ⟨?_, ?_, fun _ => rfl, fun qs ho hq => absurd ⟨ho, by rw [hq]; rfl⟩ hi⟩
      · unfold left
        rw [if_neg ha, if_neg hm]
        rfl
      · rw [if_neg ha]
        rfl

/-! ### Receptions (R67, R75, R77, R78) -/

/-- A command that ends a frame on the line is not taken in while the receiver takes nothing. -/
theorem exec_frameMissed {c : Instr} {s : State} (hc : isFrameCommand c = true) (h : s.receiving = false) :
    exec c s = .next (frameMissed s) := by
  have hno : ¬s.receiving = true := ne_true_of_eq_false h
  cases c <;> try cases hc
  case addressConflict => exact congrArg _ (if_neg fun ha => hno (Bool.and_eq_true_iff.mp ha).1)
  all_goals exact congrArg _ (if_neg hno)

theorem not_receiving {s : State} (h : s.loader.phase ≠ .done ∨ s.mode.station = none ∨ s.link.awaitIdle = true ∨
    ∃ f, s.link.inProgress = some f ∧ f.phase = .sending) : s.receiving = false := by
  unfold State.receiving
  rcases h with h | h | h | ⟨f, hf, hp⟩
  · simp [State.loaderIdle, h]
  · simp [State.loaded, h]
  · simp [h]
  · simp [Link.isSending, hf, hp]

/-- Settles O30. -/
theorem receptionsThatGoNoFurther : Obligations.ReceptionsThatGoNoFurther := by
  refine ⟨?_, fun c s hc h => exec_frameMissed hc (not_receiving h)⟩
  intro s h ended
  have hend : frameEnd s = s.withLink ended := by
    refine congrArg (fun g : Sending → Sending => s.withLink { s.link with
      lineIdle := false, collecting := false, inProgress := s.link.inProgress.map g }) (funext fun f => ?_)
    obtain ⟨out, phase, attempts⟩ := f
    cases phase <;> rfl
  refine ⟨?_, ?_, ?_, ?_, ?_⟩
  · refine congrArg Host.Outcome.next ((if_pos h).trans ?_)
    refine congrArg (fun g : Sending → Sending => s.withLink { s.link with
      lineIdle := false, collecting := false, awaitIdle := true
      counters := { s.link.counters with formatErrors := countUp s.link.counters.formatErrors }
      inProgress := s.link.inProgress.map g }) (funext fun f => ?_)
    obtain ⟨out, phase, attempts⟩ := f
    cases phase <;> rfl
  · exact congrArg Host.Outcome.next ((if_pos h).trans (congrArg countFormatError hend))
  · exact congrArg Host.Outcome.next ((if_pos h).trans (congrArg countCrcError hend))
  · exact congrArg Host.Outcome.next ((if_pos h).trans (congrArg accept hend))
  · exact congrArg accept hend

end Sys2Proof.Machine
end

section
/-! PROOFS, the peer table (chapter 5): frames taken into an entry, beacons and plan pages, plan requests, the
timers of the table, and the own address heard. -/

namespace Sys2Proof.Machine

/-! ### Taking a peer's frame (R79, R92, R93, R99) -/

/-- An accepted frame has been counted, has left the line, and has been heard. -/
def State.heardFrame (s : State) : State := heardPeer (accept (frameEnd s))

theorem fromStation_peer {src : Byte} {formOk : Bool} {k : State → State} {s : State} (hr : s.receiving = true)
    (hsrc : isStation src = true) (hf : formOk = true) (hne : s.station.address ≠ some src) :
    fromStation src formOk k s = settle (k s.heardFrame) :=
  (if_pos hr).trans ((if_pos (Bool.and_eq_true_iff.mpr ⟨hsrc, hf⟩)).trans (if_neg hne))

theorem storeEntry_eq (before after : PeerEntry) (s : State) : storeEntry before after s =
    (s.withEntries (placeEntry (after.refreshed s.statusSecs) s.peers.entries)).withFaults { s.faults with
      flags := if after.planState = .mismatched ∧ before.planState ≠ .mismatched then
        s.faults.flags ||| EventClass.planMismatch.bit else s.faults.flags } := by
  unfold storeEntry
  dsimp only
  split <;> rfl

theorem rejectFrame_eq (s : State) : rejectFrame s =
    (s.withPeers { s.peers with overflow := startAt s.isolationUs }).withFaults { s.faults with
      flags := if s.viewOverflow then s.faults.flags else s.faults.flags ||| EventClass.viewOverflow.bit } := by
  unfold rejectFrame
  dsimp only
  split <;> rfl

/-- A frame of a sender that has an entry, or finds room for one. -/
theorem takeFrame_stored {src : Byte} {f : PeerEntry → PeerEntry} {s : State}
    (h : (findEntry src s.peers.entries).isSome = true ∨ s.peers.entries.length < 32) : takeFrame src f s =
    storeEntry ((findEntry src s.peers.entries).getD (PeerEntry.created src))
      (f ((findEntry src s.peers.entries).getD (PeerEntry.created src))) s := by
  unfold takeFrame
  split
  case h_1 e he => rw [he]; rfl
  case h_2 he =>
    rw [he]
    exact if_pos (h.resolve_left (by rw [he]; exact Bool.false_ne_true))

theorem takeFrame_rejected {src : Byte} {f : PeerEntry → PeerEntry} {s : State}
    (h : findEntry src s.peers.entries = none) (hfull : 32 ≤ s.peers.entries.length) :
    takeFrame src f s = rejectFrame s := by
  unfold takeFrame
  rw [h]
  exact if_neg (Nat.not_lt.mpr hfull)

/-- What a frame does to the sender's entry leaves its address. -/
theorem old_address (src : Byte) (es : List PeerEntry) :
    ((findEntry src es).getD (PeerEntry.created src)).address = src := by
  cases h : findEntry src es with
  | none => rfl
  | some e => exact findEntry_address h

/-- What taking a peer's frame into the table does, whatever the frame does to the entry. -/
theorem takeFrame_spec {src : Byte} {f : PeerEntry → PeerEntry} (hf : ∀ e, (f e).address = e.address) (s : State) :
    let old := (findEntry src s.peers.entries).getD (PeerEntry.created src)
    let u := takeFrame src f s
    u = (s.withPeers u.peers).withFaults { s.faults with flags := u.faults.flags } ∧
    ((findEntry src s.peers.entries).isSome = true ∨ s.peers.entries.length < 32 →
      findEntry src u.peers.entries = some ((f old).refreshed s.statusSecs) ∧
      (∀ a, a ≠ src → findEntry a u.peers.entries = findEntry a s.peers.entries) ∧
      u.peers.overflow = s.peers.overflow ∧ u.peers.sharedHold = s.peers.sharedHold ∧
      u.faults.flags = (if (f old).planState = .mismatched ∧ old.planState ≠ .mismatched then
        s.faults.flags ||| EventClass.planMismatch.bit else s.faults.flags)) ∧
    (findEntry src s.peers.entries = none → 32 ≤ s.peers.entries.length →
      u.peers = { s.peers with overflow := startAt s.isolationUs } ∧
      u.faults.flags = (if s.viewOverflow then s.faults.flags
        else s.faults.flags ||| EventClass.viewOverflow.bit)) := by
  intro old u
  by_cases h : (findEntry src s.peers.entries).isSome = true ∨ s.peers.entries.length < 32
  · have hu : u = storeEntry old (f old) s := takeFrame_stored h
    rw [storeEntry_eq] at hu
    have haddr : ((f old).refreshed s.statusSecs).address = src := (hf old).trans (old_address src s.peers.entries)
    rw [hu]
    refine ⟨rfl, fun _ => ⟨?_, fun a ha => ?_, rfl, rfl, rfl⟩, fun hn hfull => ?_⟩
    · exact haddr ▸ findEntry_placeEntry_self ((f old).refreshed s.statusSecs) s.peers.entries
    · exact findEntry_placeEntry_ne _ (haddr ▸ ha) s.peers.entries
    · rcases h with h | h
      · rw [hn] at h
        cases h
      · omega
  · obtain ⟨hnone, hfull⟩ := not_or.mp h
    have hu : u = rejectFrame s := takeFrame_rejected (Option.not_isSome_iff_eq_none.mp hnone) (Nat.not_lt.mp hfull)
    rw [rejectFrame_eq] at hu
    rw [hu]
    exact ⟨rfl, fun hc => absurd hc h, fun _ _ => ⟨rfl, rfl⟩⟩

/-- Settles O33. -/
theorem peerFramesAreRecorded : Obligations.PeerFramesAreRecorded := by
  intro src s hr hsrc hne _ c f finish hc old
  have hexec : (∀ e, (f e).address = e.address) ∧
      exec c s = .next (settle (finish (takeFrame src f s.heardFrame))) := by
    rcases hc with ⟨seq, msg, rfl, hlen, rfl, rfl⟩ | ⟨toggle, page, rfl, hlen, rfl, rfl⟩ |
      ⟨heard, es, rfl, hlo, hhi, rfl, rfl⟩ | ⟨rfl, rfl, rfl⟩
    · exact ⟨takeBeacon_address seq msg, congrArg _ (fromStation_peer hr hsrc (decide_eq_true hlen) hne)⟩
    · exact ⟨takePage_address _ toggle page, congrArg _ (fromStation_peer hr hsrc hlen hne)⟩
    · exact ⟨fun _ => rfl, congrArg _ (fromStation_peer hr hsrc (decide_eq_true ⟨hlo, hhi⟩) hne)⟩
    · exact ⟨fun _ => rfl, congrArg _ (fromStation_peer hr hsrc rfl hne)⟩
  obtain ⟨haddr, he⟩ := hexec
  obtain ⟨hframe, hstored, hrejected⟩ := takeFrame_spec (src := src) haddr s.heardFrame
  refine ⟨_, he, ?_, ?_, fun h => hstored h, fun hn hfull => ?_⟩
  · rw [hframe]
    rfl
  · rw [hframe]
    rfl
  · obtain ⟨hp, hflags⟩ := hrejected hn hfull
    exact ⟨hp, by rw [State.viewOverflow, hp]; rfl, hflags⟩

/-! ### Beacons and plan pages (R94 to R98) -/

theorem gapOf_eq {last seq : Byte} (h : seq ≠ last) : gapOf last seq = (seq.toNat + 255 - last.toNat) % 256 := by
  have hne : seq.toNat ≠ last.toNat := fun he => h (BitVec.eq_of_toNat_eq he)
  rw [gapOf, if_neg h]
  bv_omega

theorem rawToFigure_isSome {f : RawFigure} : (rawToFigure f).isSome = true ↔ f.service.toNat ≤ 11 := by
  rw [rawToFigure, Option.isSome_map, svcOfByte]
  split <;> simp <;> omega

/-- A list that names services alone is read item by item. -/
theorem figures_read : ∀ {fs : List RawFigure}, (∀ f ∈ fs, f.service.toNat ≤ 11) →
    (fs.filterMap rawToFigure).map (fun f => (f.service.val, f.demand, f.capacity)) =
      fs.map fun f => (f.service.toNat, f.demand, f.capacity)
  | [], _ => rfl
  | f :: fs, h => by
    have hf : f.service.toNat < 12 := Nat.lt_succ_of_le (h f List.mem_cons_self)
    have hr : rawToFigure f = some { service := ⟨f.service.toNat, hf⟩, demand := f.demand, capacity := f.capacity } := by
      rw [rawToFigure, svcOfByte, dif_pos hf]
      rfl
    rw [List.filterMap_cons_some hr, List.map_cons, List.map_cons, figures_read fun g hg => h g (List.mem_cons_of_mem _ hg)]

theorem figures_distinct {fs : List RawFigure} (h : ∀ f ∈ fs, f.service.toNat ≤ 11) :
    ((fs.filterMap rawToFigure).map Figure.service).Nodup ↔ (fs.map RawFigure.service).Nodup := by
  have hval : ((fs.filterMap rawToFigure).map Figure.service).map Fin.val = (fs.map RawFigure.service).map BitVec.toNat := by
    have := congrArg (List.map Prod.fst) (figures_read h)
    rw [List.map_map, List.map_map] at this
    rw [List.map_map, List.map_map]
    exact this
  rw [← List.nodup_map_iff Fin.val_injective, hval, List.nodup_map_iff fun _ _ => BitVec.eq_of_toNat_eq]

theorem figuresOf_valid {fs : List RawFigure} (h : ∀ f ∈ fs, f.service.toNat ≤ 11)
    (hn : (fs.map RawFigure.service).Nodup) : figuresOf fs = some (fs.filterMap rawToFigure) :=
  if_pos ⟨List.filterMap_length_eq_length.mpr fun f hf => rawToFigure_isSome.mpr (h f hf), (figures_distinct h).mpr hn⟩

theorem figuresOf_invalid {fs : List RawFigure}
    (h : (∃ f ∈ fs, 11 < f.service.toNat) ∨ ¬(fs.map RawFigure.service).Nodup) : figuresOf fs = none := by
  refine if_neg ?_
  rintro ⟨hlen, hn⟩
  have hall : ∀ f ∈ fs, f.service.toNat ≤ 11 := fun f hf =>
    rawToFigure_isSome.mp (List.filterMap_length_eq_length.mp hlen f hf)
  rcases h with ⟨f, hf, hlt⟩ | h
  · exact absurd (hall f hf) (by omega)
  · exact h ((figures_distinct hall).mp hn)

theorem marksRestart_iff {msg : BeaconMsg} {e : PeerEntry} :
    marksRestart msg e = true ↔ msg.mode = .listenIn ∧ e.mode ≠ some .listenIn := by
  rw [marksRestart, Bool.and_eq_true, beq_iff_eq, bne_iff_ne]

/-- What a beacon sets, whether it marks a restart or not. -/
theorem takeBeacon_eq (seq : Byte) (msg : BeaconMsg) (e : PeerEntry) : takeBeacon seq msg e =
    { (if marksRestart msg e then e.restarted else e) with
      mode := some msg.mode, night := msg.nightLine, interval := some (intervalOf msg.interval),
      topAlert := topAlertOf msg.alertClass msg.alertLevel, viewOverflow := msg.viewOverflow,
      isolated := msg.isolated, figures := (figuresOf msg.figures).getD e.figures, lastSeq := some seq,
      missed := match e.lastSeq with
        | some l => if marksRestart msg e then e.missed else min 255 (e.missed + gapOf l seq)
        | none => e.missed } := by
  unfold takeBeacon
  dsimp only
  split <;> rfl

theorem restarted_ite (m : Bool) (e : PeerEntry) : (if m then e.restarted else e) = { e with
    planState := if m then .unchecked else e.planState, lastToggle := if m then none else e.lastToggle
    assembly := if m then none else e.assembly, answerHold := if m then .off else e.answerHold } := by
  cases m <;> rfl

theorem beaconTaken (seq : Byte) (msg : BeaconMsg) (e : PeerEntry) :
    let t := takeBeacon seq msg e
    let marks := msg.mode = .listenIn ∧ e.mode ≠ some .listenIn
    t.address = e.address ∧ t.mode = some msg.mode ∧ t.night = msg.nightLine ∧
    t.viewOverflow = msg.viewOverflow ∧ t.isolated = msg.isolated ∧
    t.interval = some (max 1 (min 10 msg.interval.toNat)) ∧ t.lastSeq = some seq ∧
    t.topAlert = topAlertOf msg.alertClass msg.alertLevel ∧ t.figures = (figuresOf msg.figures).getD e.figures ∧
    (marks → t.planState = .unchecked ∧ t.lastToggle = none ∧ t.assembly = none ∧ t.answerHold = .off ∧
      t.missed = e.missed) ∧
    (¬marks → t.planState = e.planState ∧ t.lastToggle = e.lastToggle ∧ t.assembly = e.assembly ∧
      t.answerHold = e.answerHold ∧ (e.lastSeq = none → t.missed = e.missed) ∧
      ∀ l, e.lastSeq = some l → t.missed = min 255 (e.missed + gapOf l seq)) := by
  intro t marks
  have ht : t = _ := (takeBeacon_eq seq msg e).trans (by rw [restarted_ite])
  rw [ht]
  refine ⟨rfl, rfl, rfl, rfl, rfl, rfl, rfl, rfl, rfl, fun hm => ?_, fun hm => ?_⟩
  · have hm' : marksRestart msg e = true := marksRestart_iff.mpr hm
    rw [hm']
    refine ⟨rfl, rfl, rfl, rfl, ?_⟩
    cases e.lastSeq <;> rfl
  · have hm' : marksRestart msg e = false := Bool.eq_false_iff.mpr (mt marksRestart_iff.mp hm)
    rw [hm']
    refine ⟨rfl, rfl, rfl, rfl, fun hn => ?_, fun l hl => ?_⟩
    · simp only [hn]
    · simp only [hl]
      rfl

/-- Settles O34. -/
theorem beaconsAndPagesAreTaken : Obligations.BeaconsAndPagesAreTaken := by
  refine ⟨?_, fun own toggle e => ⟨fun h page => ?_, fun h => ⟨fun head svcs => ?_, fun p svcs hp => ?_,
    fun a svcs ha ht hn => ?_, ?_, fun p svcs ha => ?_, fun a p svcs ha hp hne => ?_⟩⟩⟩
  · intro seq msg e t marks
    obtain ⟨h1, h2, h3, h4, h5, h6, h7, htop, hfig, hmarks, hnot⟩ := beaconTaken seq msg e
    refine ⟨h1, h2, h3, h4, h5, h6, h7, fun hc => ?_, fun hlo hhi => ?_, fun hbad => ?_, fun hall hn => ?_, hmarks,
      fun hm => ?_⟩
    · rw [htop]
      exact if_neg (by omega)
    · rw [htop]
      exact if_pos ⟨hlo, hhi⟩
    · rw [hfig, figuresOf_invalid hbad]
      rfl
    · rw [hfig, figuresOf_valid hall hn]
      exact figures_read hall
    · obtain ⟨hp, htog, has, hhold, hnone, hsome⟩ := hnot hm
      refine ⟨hp, htog, has, hhold, hnone, fun l hl => ⟨fun he => ?_, fun hne => ?_⟩⟩
      · rw [hsome l hl, gapOf, if_pos he, Nat.add_zero]
      · rw [hsome l hl, gapOf_eq hne]
  · cases page with
    | first head svcs => exact if_pos h
    | later p svcs => exact if_pos (.inl h)
  · exact if_neg h
  · exact if_pos (.inr hp)
  · refine (if_neg (not_or.mpr ⟨h, by decide⟩)).trans ?_
    rw [ha]
    exact (if_pos ⟨ht, hn⟩).trans (if_pos rfl)
  · intro a svcs ha ht hn t
    have hdone : t = e.checked own a (pageServices svcs) := by
      refine (if_neg (not_or.mpr ⟨h, by decide⟩)).trans ?_
      rw [ha]
      exact (if_pos ⟨ht, hn⟩).trans (if_neg (by decide))
    rw [hdone]
    refine ⟨rfl, congrArg some ht, rfl, rfl, fun ho => by subst ho; rfl, fun c hc => ?_⟩
    subst hc
    simp only [PeerEntry.checked, planEqual, Bool.and_eq_true, beq_iff_eq]
  · unfold takePage
    dsimp only
    rw [ha]
    split <;> rfl
  · refine (if_neg (not_or.mpr ⟨h, by rcases hp with rfl | rfl <;> decide⟩)).trans ?_
    rw [ha]
    exact if_neg fun hc => hne.elim (· hc.1) (· hc.2)

/-! ### Plan requests (R90) -/

/-- The announcement is handed unless one waits unbegun. -/
theorem announce_spec {s : State} (hb : s.beaconing = true) :
    announce s = (s.withLink (announce s).link).withMode (announce s).mode ∧
    (s.link.announcementUnbegun = false → (announce s).mode = { s.mode with toggle := !s.mode.toggle } ∧
      (announce s).link = { s.link with waitPages := s.announcement }.takeNext) ∧
    (s.link.announcementUnbegun = true → (announce s).mode = s.mode ∧ (announce s).link = s.link) := by
  unfold announce
  cases hu : s.link.announcementUnbegun with
  | false =>
    rw [if_pos (by rw [hb]; rfl)]
    exact ⟨rfl, fun _ => ⟨rfl, rfl⟩, nofun⟩
  | true =>
    rw [if_neg (by rw [hb]; exact Bool.false_ne_true)]
    exact ⟨rfl, nofun, fun _ => ⟨rfl, rfl⟩⟩

theorem findEntry_map_self {a : Byte} {es : List PeerEntry} {e : PeerEntry} (h : findEntry a es = some e)
    (f : PeerEntry → PeerEntry) (hf : ∀ e, (f e).address = e.address) :
    findEntry a (mapEntry a f es) = some (f e) := by
  rw [findEntry_mapEntry _ _ _ hf, h]
  exact congrArg some (if_pos (findEntry_address h))

theorem findEntry_map_other {a b : Byte} (h : b ≠ a) {es : List PeerEntry} (f : PeerEntry → PeerEntry)
    (hf : ∀ e, (f e).address = e.address) : findEntry b (mapEntry a f es) = findEntry b es := by
  rw [findEntry_mapEntry _ _ _ hf]
  cases he : findEntry b es with
  | none => rfl
  | some e => exact congrArg some (if_neg ((findEntry_address he).symm ▸ h))

/-- The announcement that an answered request hands, on a state whose peer table alone has changed. -/
theorem announce_withPeers {s t : State} (hb : s.beaconing = true) (p : PeerTable)
    (ht : t = announce (s.withPeers p)) :
    t = ((s.withPeers t.peers).withLink t.link).withMode t.mode ∧ t.peers = p ∧
    (s.link.announcementUnbegun = false → t.mode = { s.mode with toggle := !s.mode.toggle } ∧
      t.link = { s.link with waitPages := s.announcement }.takeNext) ∧
    (s.link.announcementUnbegun = true → t.mode = s.mode ∧ t.link = s.link) := by
  subst ht
  obtain ⟨hframe, hhanded⟩ := announce_spec (s := s.withPeers p) hb
  have hp : (announce (s.withPeers p)).peers = p := congrArg State.peers hframe
  refine ⟨?_, hp, hhanded⟩
  rw [hp]
  exact hframe

/-- Settles O35. -/
theorem planRequestsAreAnswered : Obligations.PlanRequestsAreAnswered := by
  intro src msg s hb hreq t handed
  have ht : t = _ := if_pos (Bool.and_eq_true_iff.mpr ⟨hreq, hb⟩)
  cases he : findEntry src s.peers.entries with
  | some e =>
    rw [he] at ht
    by_cases hc : e.planState ≠ .matched ∧ e.answerHold = .off
    · obtain ⟨hframe, hp, hhanded⟩ := announce_withPeers hb { s.peers with
        entries := mapEntry src (fun e => { e with answerHold := startAt s.isolationUs }) s.peers.entries }
        (ht.trans (if_pos hc))
      refine ⟨hframe, fun e' he' => ?_, nofun⟩
      cases he'
      refine ⟨fun _ _ => ⟨hhanded, ?_, fun a ha => ?_⟩, fun h => ?_⟩
      · refine (congrArg (fun p : PeerTable => findEntry src p.entries) hp).trans ?_
        exact findEntry_map_self he _ fun _ => rfl
      · refine (congrArg (fun p : PeerTable => findEntry a p.entries) hp).trans ?_
        exact findEntry_map_other ha _ fun _ => rfl
      · exact absurd hc (h.elim (fun hm hc => hc.1 hm) fun hh hc => hh hc.2)
    · replace ht : t = s := ht.trans (if_neg hc)
      refine ⟨ht ▸ rfl, fun e' he' => ?_, nofun⟩
      cases he'
      exact ⟨fun hp hh => absurd ⟨hp, hh⟩ hc, fun _ => ht⟩
  | none =>
    rw [he] at ht
    by_cases hc : s.peers.sharedHold = .off
    · obtain ⟨hframe, hp, hhanded⟩ := announce_withPeers hb { s.peers with sharedHold := startAt s.isolationUs }
        (ht.trans (if_pos hc))
      exact ⟨hframe, fun _ h => absurd h.symm (Option.some_ne_none _), fun _ => ⟨fun _ => ⟨hhanded, hp⟩, fun h => absurd hc h⟩⟩
    · replace ht : t = s := ht.trans (if_neg hc)
      refine ⟨?_, fun _ h => absurd h.symm (Option.some_ne_none _), fun _ => ⟨fun h => absurd h hc, fun _ => ht⟩⟩
      rw [ht]
      rfl

/-! ### The timers of the table, and silence (R81, R90, R93, R99, R122) -/

/-- Settles O36. -/
theorem peerTimersExpire : Obligations.PeerTimersExpire := by
  refine ⟨fun a s hwf => ⟨fun e he hrun => ?_, fun h => ?_, fun e he => ?_, rfl⟩, fun s hb hrun => ⟨fun hi => ?_, fun hi => ?_⟩⟩
  · refine ⟨_, congrArg _ (if_pos ?_), rfl, ?_, fun b hb => ?_⟩
    · exact List.any_eq_true.mpr ⟨e, findEntry_mem he, Bool.and_eq_true_iff.mpr ⟨beq_iff_eq.mpr (findEntry_address he), hrun⟩⟩
    · exact findEntry_map_self he _ fun _ => rfl
    · exact findEntry_map_other hb _ fun _ => rfl
  · exact congrArg _ (if_pos h)
  · exact ⟨_, rfl, rfl, findEntry_map_self he _ fun _ => rfl, fun b hb => findEntry_map_other hb _ fun _ => rfl⟩
  · refine ⟨_, congrArg _ ((if_pos (Bool.and_eq_true_iff.mpr ⟨hb, hrun⟩)).trans (if_neg (Bool.eq_false_iff.mp hi))), ?_⟩
    rw [enterIsolated_eq]
    exact ⟨rfl, rfl, rfl, rfl, rfl⟩
  · exact congrArg _ ((if_pos (Bool.and_eq_true_iff.mpr ⟨hb, hrun⟩)).trans (if_pos hi))

/-! ### The own address heard (R80, R150) -/

/-- Settles O37. -/
theorem ownAddressMeansConflict : Obligations.OwnAddressMeansConflict := by
  intro s hr ha
  have hexec : exec .addressConflict s = .next (ownAddressFrame (accept (frameEnd s))) :=
    congrArg _ (if_pos (Bool.and_eq_true_iff.mpr ⟨hr, ha⟩))
  refine ⟨fun hb => ?_, fun hb => ?_⟩
  · refine ⟨((((accept (frameEnd s)).withMode { s.mode with
      station := some .addressConflict, isolated := false, beaconT := .off, listenIn := .off }).raise
        .addressConflict).withLink { (accept (frameEnd s)).link.dropAll with silence := .off, heard := false }).withRound
      { s.round with outstanding := none }, ?_, rfl, rfl, ?_, rfl, rfl⟩
    · exact hexec.trans (congrArg Host.Outcome.next (if_pos hb))
    · rfl
  · exact hexec.trans (congrArg Host.Outcome.next (if_neg (Bool.eq_false_iff.mp hb)))

end Sys2Proof.Machine
end

section
/-! PROOFS, the round (chapter 7): entries of a received frame, the frames that reach the round, its close and its
guard, and what the grants do to the own queue and its channels. -/

namespace Sys2Proof.Machine

/-! ### The entries of a received frame (R119) -/

/-- A demand pair of a received entry, where its service and its units lie in the values of R119. -/
def pairOf (p : RawPair) : Option (SvcId × Nat) :=
  if p.units == 0 then none else (svcOfByte p.service).map fun v => (v, p.units.toNat)

theorem pairOf_eq_some {p : RawPair} {d : SvcId × Nat} :
    pairOf p = some d ↔ p.units ≠ 0 ∧ p.service.toNat = d.1.val ∧ p.units.toNat = d.2 := by
  obtain ⟨v, n⟩ := d
  unfold pairOf
  split
  case isTrue h =>
    exact ⟨nofun, fun hc => absurd (beq_iff_eq.mp h) hc.1⟩
  case isFalse h =>
    rw [beq_iff_eq] at h
    simp only [Option.map_eq_some_iff, svcOfByte_eq_some, Prod.mk.injEq, ne_eq, h,
      not_false_eq_true, true_and]
    exact ⟨fun ⟨a, ha, he, hn⟩ => ⟨he ▸ ha, hn⟩, fun ⟨ha, hn⟩ => ⟨v, ha, rfl, hn⟩⟩

theorem pairOf_isSome {p : RawPair} : (pairOf p).isSome = true ↔ ¬(p.units = 0 ∨ 11 < p.service.toNat) := by
  rw [Option.isSome_iff_exists]
  simp only [pairOf_eq_some, not_or]
  refine ⟨fun ⟨d, hu, hs, _⟩ => ⟨hu, by omega⟩, fun ⟨hu, hs⟩ => ⟨(⟨p.service.toNat, by omega⟩, p.units.toNat), hu, rfl, rfl⟩⟩

/-- Pairs that are all in range are read one by one. -/
theorem pairs_read : ∀ {ps : List RawPair}, (∀ p ∈ ps, (pairOf p).isSome = true) →
    (ps.filterMap pairOf).map (fun d => (d.1.val, d.2)) = ps.map fun p => (p.service.toNat, p.units.toNat)
  | [], _ => rfl
  | p :: ps, h => by
    obtain ⟨d, hd⟩ := Option.isSome_iff_exists.mp (h p List.mem_cons_self)
    obtain ⟨-, hs, hu⟩ := pairOf_eq_some.mp hd
    rw [List.filterMap_cons_some hd, List.map_cons, List.map_cons, hs, hu,
      pairs_read fun g hg => h g (List.mem_cons_of_mem _ hg)]

theorem pairs_distinct {ps : List RawPair} (h : ∀ p ∈ ps, (pairOf p).isSome = true) :
    ((ps.filterMap pairOf).map Prod.fst).Nodup ↔ (ps.map RawPair.service).Nodup := by
  have hval : ((ps.filterMap pairOf).map Prod.fst).map Fin.val = (ps.map RawPair.service).map BitVec.toNat := by
    have := congrArg (List.map Prod.fst) (pairs_read h)
    rw [List.map_map, List.map_map] at this
    rw [List.map_map, List.map_map]
    exact this
  rw [← List.nodup_map_iff Fin.val_injective, hval, List.nodup_map_iff fun _ _ => BitVec.eq_of_toNat_eq]

/-- The demands of a received entry are its pairs, when there are at most three, in range, of services all different. -/
theorem rawDemands_eq_some {raw : RawEntry} {ds : List (SvcId × Nat)} : rawDemands raw = some ds ↔
    raw.pairCount.toNat ≤ 3 ∧ (∀ p ∈ rawPairs raw, (pairOf p).isSome = true) ∧
      ((rawPairs raw).map RawPair.service).Nodup ∧ (rawPairs raw).filterMap pairOf = ds := by
  have hdef : rawDemands raw = if raw.pairCount.toNat ≤ 3 ∧ ((rawPairs raw).filterMap pairOf).length =
      (rawPairs raw).length ∧ (((rawPairs raw).filterMap pairOf).map Prod.fst).Nodup then
      some ((rawPairs raw).filterMap pairOf) else none := rfl
  rw [hdef, Option.ite_none_right_eq_some, List.filterMap_length_eq_length]
  refine ⟨fun ⟨⟨hc, hp, hn⟩, he⟩ => ⟨hc, hp, (pairs_distinct hp).mp hn, Option.some.inj he⟩,
    fun ⟨hc, hp, hn, he⟩ => ⟨⟨hc, hp, (pairs_distinct hp).mpr hn⟩, congrArg some he⟩⟩

theorem rawDemands_isSome {raw : RawEntry} : (rawDemands raw).isSome = true ↔
    raw.pairCount.toNat ≤ 3 ∧ (∀ p ∈ rawPairs raw, (pairOf p).isSome = true) ∧
      ((rawPairs raw).map RawPair.service).Nodup := by
  simp [Option.isSome_iff_exists, rawDemands_eq_some]

theorem providesField_eq_some {x : Byte} {p : Option SvcId} : providesField x = some p ↔
    (x = 255 ∧ p = none) ∨ (x ≠ 255 ∧ ∃ v, p = some v ∧ x.toNat = v.val) := by
  unfold providesField
  split
  case isTrue h =>
    rw [beq_iff_eq] at h
    simp only [h, Option.some.injEq, ne_eq, true_and, not_true_eq_false, false_and, or_false, eq_comm]
  case isFalse h =>
    rw [beq_iff_eq] at h
    simp only [h, Option.map_eq_some_iff, svcOfByte_eq_some, ne_eq, false_and, not_false_eq_true, true_and, false_or]
    exact ⟨fun ⟨v, hv, he⟩ => ⟨v, he.symm, hv⟩, fun ⟨v, he, hv⟩ => ⟨v, hv, he.symm⟩⟩

theorem actionOf_eq_some {x : Byte} {a : Action} :
    actionOf x = some a ↔ (x.toNat = 0 ∧ a = .stop) ∨ (x.toNat = 1 ∧ a = .start) := by
  unfold actionOf
  split
  case h_1 h => simp [h, @eq_comm _ _ a]
  case h_2 h => simp [h, @eq_comm _ _ a]
  case h_3 h0 h1 => exact ⟨nofun, by rintro (⟨h, -⟩ | ⟨h, -⟩); exacts [(h0 h).elim, (h1 h).elim]⟩

theorem causeOf_eq_some {x : Byte} {c : Cause} :
    causeOf x = some c ↔ (x.toNat = 0 ∧ c = .night) ∨ (x.toNat = 1 ∧ c = .wake) ∨ (x.toNat = 2 ∧ c = .shortfall) := by
  unfold causeOf
  split
  case h_1 h => simp [h, @eq_comm _ _ c]
  case h_2 h => simp [h, @eq_comm _ _ c]
  case h_3 h => simp [h, @eq_comm _ _ c]
  case h_4 h0 h1 h2 =>
    exact ⟨nofun, by rintro (⟨h, -⟩ | ⟨h, -⟩ | ⟨h, -⟩); exacts [(h0 h).elim, (h1 h).elim, (h2 h).elim]⟩

/-- A received entry that is well formed, field by field. -/
theorem rawToEntry_eq_some {raw : RawEntry} {e : Entry} : rawToEntry raw = some e ↔
    lpOfByte raw.lp = some e.lp ∧ actionOf raw.action = some e.action ∧ causeOf raw.cause = some e.cause ∧
    providesField raw.provides = some e.provides ∧ rawDemands raw = some e.demands ∧
    (causeFits e.action e.cause = true ∧ 1 ≤ raw.level.toNat ∧ raw.level.toNat ≤ 7 ∧ raw.capacity.toNat ≤ 4000 ∧
      (e.action = .stop → e.provides.isSome = true) ∧ (e.provides.isSome = true → 1 ≤ raw.capacity.toNat)) ∧
    raw.level.toNat = e.level ∧ raw.capacity.toNat = e.capacity ∧ raw.inrush.toNat = e.inrush := by
  unfold rawToEntry
  split
  case h_1 lp action cause provides demands hl ha hc hp hd =>
    rw [Option.ite_none_right_eq_some, hl, ha, hc, hp, hd]
    constructor
    · rintro ⟨h, he⟩
      cases he
      exact ⟨rfl, rfl, rfl, rfl, rfl, h, rfl, rfl, rfl⟩
    · rintro ⟨hl, ha, hc, hp, hd, h, hlv, hcap, hin⟩
      cases e
      simp only [Option.some.injEq] at hl ha hc hp hd
      subst hl ha hc hp hd hlv hcap hin
      exact ⟨h, rfl⟩
  case h_2 h =>
    refine ⟨nofun, ?_⟩
    rintro ⟨hl, ha, hc, hp, hd, -⟩
    exact (h _ _ _ _ _ hl ha hc hp hd).elim

/-- The conditions of R119 on a received entry. -/
structure EntryFits (raw : RawEntry) : Prop where
  lp : raw.lp.toNat ≤ 7
  action : raw.action.toNat = 0 ∧ raw.cause.toNat = 0 ∨
    raw.action.toNat = 1 ∧ (raw.cause.toNat = 1 ∨ raw.cause.toNat = 2)
  level : 1 ≤ raw.level.toNat ∧ raw.level.toNat ≤ 7
  provides : raw.provides = 255 ∨ raw.provides.toNat ≤ 11
  stop : raw.action.toNat = 0 → raw.provides ≠ 255
  capacity : raw.capacity.toNat ≤ 4000 ∧ (raw.provides ≠ 255 → 1 ≤ raw.capacity.toNat)
  demands : raw.pairCount.toNat ≤ 3 ∧ (∀ p ∈ rawPairs raw, (pairOf p).isSome = true) ∧
    ((rawPairs raw).map RawPair.service).Nodup

theorem rawToEntry_fits {raw : RawEntry} {e : Entry} (h : rawToEntry raw = some e) : EntryFits raw := by
  obtain ⟨hl, ha, hc, hp, hd, ⟨hfit, hlo, hhi, hcap, hstop, hprov⟩, -⟩ := rawToEntry_eq_some.mp h
  obtain ⟨hn, hpairs, hdist, -⟩ := rawDemands_eq_some.mp hd
  rw [lpOfByte_eq_some] at hl
  rw [actionOf_eq_some] at ha
  rw [causeOf_eq_some] at hc
  rw [providesField_eq_some] at hp
  refine ⟨by omega, ?_, ⟨hlo, hhi⟩, ?_, fun h0 => ?_, ⟨hcap, fun hne => hprov ?_⟩, ⟨hn, hpairs, hdist⟩⟩
  · rcases ha with ⟨ha, hae⟩ | ⟨ha, hae⟩ <;> rcases hc with ⟨hc, hce⟩ | ⟨hc, hce⟩ | ⟨hc, hce⟩ <;>
      simp_all [causeFits]
  · exact hp.imp And.left fun ⟨_, v, _, hv⟩ => by omega
  · rcases ha with ⟨-, ha⟩ | ⟨ha, -⟩
    · rcases hp with ⟨-, hn⟩ | ⟨hne, -⟩
      · simp [hn] at hstop
        exact absurd ha hstop
      · exact hne
    · omega
  · rcases hp with ⟨he, -⟩ | ⟨-, v, hv, -⟩
    · exact absurd he hne
    · rw [hv]
      rfl

theorem EntryFits.read {raw : RawEntry} (h : EntryFits raw) : ∃ e, rawToEntry raw = some e := by
  obtain ⟨action, cause, ha, hc, hfit, hstop⟩ : ∃ action cause, actionOf raw.action = some action ∧
      causeOf raw.cause = some cause ∧ causeFits action cause = true ∧ (action = .stop → raw.provides ≠ 255) := by
    simp only [actionOf_eq_some, causeOf_eq_some]
    rcases h.action with ⟨ha, hc⟩ | ⟨ha, hc | hc⟩
    · exact ⟨.stop, .night, .inl ⟨ha, rfl⟩, .inl ⟨hc, rfl⟩, rfl, fun _ => h.stop ha⟩
    · exact ⟨.start, .wake, .inr ⟨ha, rfl⟩, .inr (.inl ⟨hc, rfl⟩), rfl, nofun⟩
    · exact ⟨.start, .shortfall, .inr ⟨ha, rfl⟩, .inr (.inr ⟨hc, rfl⟩), rfl, nofun⟩
  obtain ⟨provides, hp, hsome⟩ : ∃ p, providesField raw.provides = some p ∧ (p.isSome = true ↔ raw.provides ≠ 255) := by
    simp only [providesField_eq_some]
    by_cases hn : raw.provides = 255
    · exact ⟨none, .inl ⟨hn, rfl⟩, ⟨nofun, fun hne => absurd hn hne⟩⟩
    · exact ⟨some ⟨raw.provides.toNat, by have := h.provides.resolve_left hn; omega⟩, .inr ⟨hn, _, rfl, rfl⟩,
        ⟨fun _ => hn, fun _ => rfl⟩⟩
  obtain ⟨demands, hd⟩ := Option.isSome_iff_exists.mp (rawDemands_isSome.mpr h.demands)
  refine ⟨⟨⟨raw.lp.toNat, by have := h.lp; omega⟩, action, cause, raw.level.toNat, provides, raw.capacity.toNat,
    raw.inrush.toNat, demands⟩, rawToEntry_eq_some.mpr ⟨lpOfByte_eq_some.mpr rfl, ha, hc, hp, hd, ⟨hfit, h.level.1,
    h.level.2, h.capacity.1, fun hs => hsome.mpr (hstop hs), fun hs => h.capacity.2 (hsome.mp hs)⟩, rfl, rfl, rfl⟩⟩

theorem rawToEntry_eq_none {raw : RawEntry} : rawToEntry raw = none ↔ ¬EntryFits raw := by
  rw [← Option.not_isSome_iff_eq_none, Option.isSome_iff_exists]
  exact not_congr ⟨fun ⟨_, h⟩ => rawToEntry_fits h, EntryFits.read⟩

/-- The cases in which an entry is not well formed, one for each condition that fails. -/
theorem entryFits_iff {raw : RawEntry} : EntryFits raw ↔ ¬(7 < raw.lp.toNat ∨ 1 < raw.action.toNat ∨
    (raw.action = 0 ∧ raw.cause ≠ 0) ∨ (raw.action = 1 ∧ raw.cause ≠ 1 ∧ raw.cause ≠ 2) ∨ raw.level = 0 ∨
    7 < raw.level.toNat ∨ (raw.provides ≠ 255 ∧ 11 < raw.provides.toNat) ∨ (raw.action = 0 ∧ raw.provides = 255) ∨
    (raw.provides ≠ 255 ∧ raw.capacity = 0) ∨ 4000 < raw.capacity.toNat ∨ 3 < raw.pairCount.toNat ∨
    (∃ p ∈ rawPairs raw, p.units = 0 ∨ 11 < p.service.toNat) ∨ ¬((rawPairs raw).map RawPair.service).Nodup) := by
  have hpairs : (∀ p ∈ rawPairs raw, (pairOf p).isSome = true) ↔
      ¬∃ p ∈ rawPairs raw, p.units = 0 ∨ 11 < p.service.toNat := by
    simp only [pairOf_isSome, not_exists, not_and]
  generalize (∃ p ∈ rawPairs raw, p.units = 0 ∨ 11 < p.service.toNat) = P at hpairs ⊢
  have h0 (x : Byte) : x = 0 ↔ x.toNat = 0 := byte_eq_iff
  have h1 (x : Byte) : x = 1 ↔ x.toNat = 1 := byte_eq_iff
  have h2 (x : Byte) : x = 2 ↔ x.toNat = 2 := byte_eq_iff
  have h255 (x : Byte) : x = 255 ↔ x.toNat = 255 := byte_eq_iff
  have hc0 : raw.capacity = 0 ↔ raw.capacity.toNat = 0 := BitVec.toNat_inj.symm
  simp only [not_or, h0, h1, h2, h255, hc0, ne_eq, not_not]
  constructor
  · intro h
    obtain ⟨hl, ha, hlv, hp, hs, hc, hn, hps, hd⟩ := h
    simp only [h255, ne_eq] at hp hs hc
    exact ⟨by omega, by omega, by omega, by omega, by omega, by omega, by omega, by omega, by omega, by omega, by omega,
      hpairs.mp hps, hd⟩
  · rintro ⟨d1, d2, d3, d4, d5, d6, d7, d8, d9, d10, d11, hps, hd⟩
    refine ⟨by omega, by omega, by omega, ?_, fun _ => ?_, ⟨by omega, ?_⟩, by omega, hpairs.mpr hps, hd⟩
    all_goals
      simp only [h255, ne_eq]
      omega

/-- What a well-formed entry holds of the frame. -/
theorem rawToEntry_holds {raw : RawEntry} {e : Entry} (h : rawToEntry raw = some e) :
    e.lp.val = raw.lp.toNat ∧ e.action = (if raw.action = 0 then .stop else .start) ∧
    e.cause = (if raw.cause = 0 then .night else if raw.cause = 1 then .wake else .shortfall) ∧
    e.level = raw.level.toNat ∧
    e.provides.map Fin.val = (if raw.provides = 255 then none else some raw.provides.toNat) ∧
    e.capacity = raw.capacity.toNat ∧ e.inrush = raw.inrush.toNat ∧
    e.demands.map (fun d => (d.1.val, d.2)) = (rawPairs raw).map fun p => (p.service.toNat, p.units.toNat) := by
  obtain ⟨hl, ha, hc, hp, hd, -, hlv, hcap, hin⟩ := rawToEntry_eq_some.mp h
  obtain ⟨-, hpairs, -, hds⟩ := rawDemands_eq_some.mp hd
  have h0 (x : Byte) : x = 0 ↔ x.toNat = 0 := byte_eq_iff
  have h1 (x : Byte) : x = 1 ↔ x.toNat = 1 := byte_eq_iff
  refine ⟨(lpOfByte_eq_some.mp hl).symm, ?_, ?_, hlv.symm, ?_, hcap.symm, hin.symm, hds ▸ pairs_read hpairs⟩
  · simp only [h0]
    rcases actionOf_eq_some.mp ha with ⟨hx, he⟩ | ⟨hx, he⟩ <;> rw [hx, he] <;> rfl
  · simp only [h0, h1]
    rcases causeOf_eq_some.mp hc with ⟨hx, he⟩ | ⟨hx, he⟩ | ⟨hx, he⟩ <;> rw [hx, he] <;> rfl
  · rcases providesField_eq_some.mp hp with ⟨hx, he⟩ | ⟨hx, v, he, hv⟩
    · rw [he, if_pos hx]
      rfl
    · rw [he, if_neg hx, hv]
      rfl

/-! ### Frames taken into the round (R123, R125, R127, R128) -/

/-- The round list after one entry of a peer's frame: the entry appended, or refused. -/
def takenInto (src : Byte) (mismatched : Bool) (list : List ListEntry) (raw : RawEntry) : List ListEntry :=
  match rawToEntry raw with
  | none => list
  | some e =>
    if mismatched = true ∨ (∃ x ∈ list, x.station = src ∧ x.entry.lp = e.lp) ∨ 24 ≤ list.length then list
    else list ++ [{ station := src, entry := e, own := none }]

/-- Taking one entry counts it refused and leaves the list, or appends it. -/
theorem takeEntry_taken (src : Byte) (mismatched : Bool) (r : Round) (raw : RawEntry) :
    (takenInto src mismatched r.list raw = r.list ∧
      Round.takeEntry src mismatched r raw = { r with refused := satSucc 255 r.refused }) ∨
    ∃ e, rawToEntry raw = some e ∧ mismatched = false ∧
      takenInto src mismatched r.list raw = r.list ++ [{ station := src, entry := e, own := none }] ∧
      Round.takeEntry src mismatched r raw = { r with list := r.list ++ [{ station := src, entry := e, own := none }] } := by
  unfold Round.takeEntry takenInto
  cases hraw : rawToEntry raw with
  | none => exact .inl ⟨rfl, rfl⟩
  | some e =>
    have hc : (mismatched || r.holds src e.lp || decide (listCapacity ≤ r.list.length)) = true ↔
        mismatched = true ∨ (∃ x ∈ r.list, x.station = src ∧ x.entry.lp = e.lp) ∨ 24 ≤ r.list.length := by
      rw [Bool.or_eq_true, Bool.or_eq_true, decide_eq_true_eq, or_assoc]
      simp only [Round.holds, List.any_eq_true, Bool.and_eq_true, beq_iff_eq, listCapacity]
    dsimp only
    by_cases h : mismatched = true ∨ (∃ x ∈ r.list, x.station = src ∧ x.entry.lp = e.lp) ∨ 24 ≤ r.list.length
    · exact .inl ⟨if_pos h, if_pos (hc.mpr h)⟩
    · exact .inr ⟨e, rfl, Bool.eq_false_iff.mpr (mt Or.inl h), if_neg h, if_neg (mt hc.mp h)⟩

/-- Taking the entries of a peer's frame one after another. -/
theorem takeEntries_spec (src : Byte) (mismatched : Bool) : ∀ (raws : List RawEntry) (r : Round),
    ∃ new refused, raws.foldl (Round.takeEntry src mismatched) r = { r with list := r.list ++ new, refused } ∧
      raws.foldl (takenInto src mismatched) r.list = r.list ++ new ∧ new.length ≤ raws.length ∧
      (∀ x ∈ new, x.station = src ∧ x.own = none ∧ some x.entry ∈ raws.map rawToEntry) ∧
      (mismatched = true → new = []) ∧
      (r.refused ≤ 255 → refused = min 255 (r.refused + (raws.length - new.length)))
  | [], r => ⟨[], r.refused, by rw [List.append_nil]; rfl, by rw [List.append_nil]; rfl, Nat.le_refl _, nofun,
      fun _ => rfl, fun h => by simpa using h⟩
  | raw :: raws, r => by
    rw [List.foldl_cons, List.foldl_cons]
    rcases takeEntry_taken src mismatched r raw with ⟨hlist, hr⟩ | ⟨e, he, hm, hlist, hr⟩ <;> rw [hlist, hr]
    · obtain ⟨new, refused, hfold, htaken, hlen, hnew, hmis, href⟩ := takeEntries_spec src mismatched raws { r with
        refused := satSucc 255 r.refused }
      refine ⟨new, refused, hfold, htaken, Nat.le_succ_of_le hlen, fun x hx => ?_, hmis, fun h => ?_⟩
      · obtain ⟨hs, ho, hmem⟩ := hnew x hx
        exact ⟨hs, ho, List.mem_cons_of_mem _ hmem⟩
      · rw [href (Nat.min_le_left _ _), List.length_cons]
        simp only [satSucc]
        omega
    · obtain ⟨new, refused, hfold, htaken, hlen, hnew, hmis, href⟩ := takeEntries_spec src mismatched raws { r with
        list := r.list ++ [{ station := src, entry := e, own := none }] }
      rw [List.append_assoc] at hfold htaken
      refine ⟨_, refused, hfold, htaken, Nat.succ_le_succ hlen, fun x hx => ?_, fun h => ?_, fun h => ?_⟩
      · rcases List.mem_cons.mp hx with rfl | hx
        · exact ⟨rfl, rfl, he ▸ List.mem_cons_self⟩
        · obtain ⟨hs, ho, hmem⟩ := hnew x hx
          exact ⟨hs, ho, List.mem_cons_of_mem _ hmem⟩
      · exact absurd h (hm ▸ Bool.false_ne_true)
      · rw [href h, List.singleton_append, List.length_cons, List.length_cons, Nat.add_sub_add_right]

/-- A frame opens a CLOSED round, sets the doubtful mark where its sender has heard more, and adds its entries to the
heard count before they are taken. -/
theorem takeFrame_eq (src : Byte) (count : Nat) (mismatched : Bool) (w : Nat) (raws : List RawEntry) {r : Round}
    (h : r.phase ≠ .guarding) : r.takeFrame src count mismatched w raws =
    raws.foldl (Round.takeEntry src mismatched) { r with
      phase := .opened
      window := if r.phase = .closed then startAt (millis w) else r.window
      doubtful := r.doubtful || decide (r.heard < count)
      heard := min 255 (r.heard + raws.length) } := by
  rw [Round.takeFrame, openIfClosed_eq _ h]

/-- An entry that takes the place of the first of its address, or a new one that does not have it, leaves unchanged
whether an entry of that address has a property which the two share. -/
theorem any_placeEntry {p : PeerEntry → Bool} {new : PeerEntry} : ∀ {es : List PeerEntry},
    p new = (findEntry new.address es).any p → (placeEntry new es).any p = es.any p
  | [], h => by
    rw [placeEntry, List.any_cons, h]
    rfl
  | x :: xs, h => by
    unfold placeEntry
    split
    case isTrue =>
      have hmem : p new = true → (x :: xs).any p = true := fun hp => by
        obtain ⟨e, he, hpe⟩ := (Option.any_eq_true _ _).mp (h.symm.trans hp)
        exact List.any_eq_true.mpr ⟨e, findEntry_mem he, hpe⟩
      rw [List.any_cons]
      cases hp : p new with
      | true => rw [hmem hp]; rfl
      | false => rfl
    case isFalse =>
      by_cases hx : new.address = x.address
      · have hfind : findEntry new.address (x :: xs) = some x := List.find?_cons_of_pos (beq_iff_eq.mpr hx.symm)
        rw [hfind] at h
        rw [if_pos hx, List.any_cons, List.any_cons, h]
        rfl
      · have hfind : findEntry new.address (x :: xs) = findEntry new.address xs :=
          List.find?_cons_of_neg (mt beq_iff_eq.mp (Ne.symm hx))
        rw [hfind] at h
        rw [if_neg hx, List.any_cons, List.any_cons, any_placeEntry h]

/-- That a frame is taken into the table does not decide whether its sender is MISMATCHED. -/
theorem takeFrame_mismatched (src : Byte) (s : State) : (takeFrame src id s).mismatched src = s.mismatched src := by
  by_cases h : (findEntry src s.peers.entries).isSome = true ∨ s.peers.entries.length < 32
  · rw [takeFrame_stored h, storeEntry_eq]
    have haddr := old_address src s.peers.entries
    refine any_placeEntry ?_
    have hfind : ∀ e : PeerEntry, (e.refreshed s.statusSecs).address = e.address := fun _ => rfl
    rw [hfind, id, haddr]
    cases he : findEntry src s.peers.entries with
    | none => simp [PeerEntry.refreshed, PeerEntry.created]
    | some e =>
      rw [Option.any_some, findEntry_address he]
      rfl
  · obtain ⟨hnone, hfull⟩ := not_or.mp h
    rw [takeFrame_rejected (Option.not_isSome_iff_eq_none.mp hnone) (Nat.not_lt.mp hfull), rejectFrame_eq]
    rfl

/-- Settles O41. -/
theorem intentFramesReachTheRound : Obligations.IntentFramesReachTheRound := by
  refine ⟨fun raw => ⟨rawToEntry_eq_none.trans (not_iff_comm.mp entryFits_iff.symm), fun e => rawToEntry_holds⟩, ?_⟩
  intro src heard es s hr hsrc hne hlo hhi hwork
  obtain ⟨hframe, -, -⟩ := takeFrame_spec (src := src) (f := id) (fun _ => rfl) s.heardFrame
  have hmis : (takeFrame src id s.heardFrame).mismatched src = s.mismatched src :=
    takeFrame_mismatched src s.heardFrame
  have hexec : exec (.intent src heard es) s = .next (settle (takeIntent src heard es (takeFrame src id s.heardFrame))) :=
    congrArg _ (fromStation_peer hr hsrc (decide_eq_true ⟨hlo, hhi⟩) hne)
  generalize takeFrame src id s.heardFrame = t at hframe hmis hexec
  have htaken : takeIntent src heard es t = if t.round.phase = .guarding then countLateIntent t
      else t.withRound (t.round.takeFrame src heard.toNat (t.mismatched src) t.planW es) := by
    refine if_pos ?_
    rw [hframe]
    exact Bool.or_eq_true_iff.mpr hwork
  have hr : t.round = s.round := by rw [hframe]; rfl
  have hw : t.planW = s.planW := by rw [hframe]; rfl
  rw [htaken, hmis, hr, hw] at hexec
  by_cases hg : s.round.phase = .guarding
  · rw [if_pos hg] at hexec
    refine ⟨_, hexec, ?_⟩
    rw [hframe]
    exact ⟨rfl, fun _ => ⟨rfl, rfl⟩, fun hn => absurd hg hn⟩
  · obtain ⟨new, refused, hfold, htaken, hlen, hnew, hno, href⟩ := takeEntries_spec src (s.mismatched src) es
      { s.round with
        phase := .opened
        window := if s.round.phase = .closed then startAt (millis s.planW) else s.round.window
        doubtful := s.round.doubtful || decide (s.round.heard < heard.toNat)
        heard := min 255 (s.round.heard + es.length) }
    rw [if_neg hg, takeFrame_eq _ _ _ _ _ hg, hfold] at hexec
    refine ⟨_, hexec, ?_⟩
    rw [hframe]
    refine ⟨rfl, fun h => absurd h hg, fun _ => ?_⟩
    refine ⟨rfl, rfl, rfl, rfl, rfl, fun hc => if_pos hc, fun ho => if_neg (by rw [ho]; decide),
      List.prefix_append _ _, fun x hx => hnew x ?_, fun hm => ?_, htaken.symm, fun h => (href h).trans ?_⟩
    · have hdrop : (s.round.list ++ new).drop s.round.list.length = new := List.drop_left
      exact hdrop ▸ (show x ∈ (s.round.list ++ new).drop s.round.list.length from hx)
    · exact (congrArg (s.round.list ++ ·) (hno hm)).trans (List.append_nil _)
    · have hgrown : (s.round.list ++ new).length - s.round.list.length = new.length := by
        rw [List.length_append, Nat.add_sub_cancel_left]
      exact congrArg (min 255) ((Nat.add_sub_assoc hlen s.round.refused).symm.trans (congrArg (s.round.refused + es.length - ·) hgrown.symm))

/-! ### What the outcomes of the own entries change (R135) -/

/-- Of the station the outcomes of own entries change the queue, the channels, the units and the surplus records alone. -/
def State.OwnParts (s t : State) : Prop := ∃ queue chans units provs,
  t = (((s.withRound { s.round with queue }).withChans chans).withUnits units).withProvs provs

theorem State.OwnParts.refl (s : State) : s.OwnParts s := ⟨_, _, _, _, rfl⟩

theorem State.OwnParts.trans {s t u : State} (hst : s.OwnParts t) (htu : t.OwnParts u) : s.OwnParts u := by
  obtain ⟨q, c, n, p, ht⟩ := hst
  obtain ⟨q', c', n', p', hu⟩ := htu
  have hr : t.round = { s.round with queue := q } := by
    rw [ht]
    rfl
  refine ⟨q', c', n', p', hu.trans ?_⟩
  rw [reframe ht, hr]

theorem grantEntry_cases (q : QueueEntry) (s : State) :
    (q.entry.action = .stop ∧ s.chans[q.entry.lp].state = .stopPending ∧
      grantEntry q s = enter q.entry.lp .stopRequested s) ∨
    (q.entry.action = .start ∧ s.chans[q.entry.lp].state = .startPending ∧
      grantEntry q s = enter q.entry.lp .starting s) ∨
    (¬(q.entry.action = .stop ∧ s.chans[q.entry.lp].state = .stopPending) ∧
      ¬(q.entry.action = .start ∧ s.chans[q.entry.lp].state = .startPending) ∧
      grantEntry q s = withdraw q.entry.lp s) := by
  unfold grantEntry
  dsimp only
  split
  case h_1 ha hs => exact .inl ⟨ha, hs, rfl⟩
  case h_2 ha hs => exact .inr (.inl ⟨ha, hs, rfl⟩)
  case h_3 hstop hstart => exact .inr (.inr ⟨fun h => hstop h.1 h.2, fun h => hstart h.1 h.2, rfl⟩)

/-- A grant takes the entry from the queue and leaves the records of the other load points. -/
theorem grantEntry_queue (q : QueueEntry) (s : State) :
    (grantEntry q s).round.queue = dropQueued q.entry.lp s.round.queue := by
  rcases grantEntry_cases q s with ⟨-, -, h⟩ | ⟨-, -, h⟩ | ⟨-, -, h⟩ <;> rw [h] <;> rfl

theorem grantEntry_other (q : QueueEntry) (s : State) {j : LpId} (hj : j ≠ q.entry.lp) :
    (grantEntry q s).chans[j] = s.chans[j] := by
  rcases grantEntry_cases q s with ⟨-, -, h⟩ | ⟨-, -, h⟩ | ⟨-, -, h⟩ <;> rw [h]
  · exact (enterFor_of_ne none _ s hj).1
  · exact (enterFor_of_ne none _ s hj).1
  · exact (setChan_chans _ _ _ _).trans (if_neg hj)

theorem grantEntry_ownParts (q : QueueEntry) (s : State) : s.OwnParts (grantEntry q s) := by
  rcases grantEntry_cases q s with ⟨-, -, h⟩ | ⟨-, -, h⟩ | ⟨-, -, h⟩ <;> rw [h]
  · exact ⟨_, _, _, _, enterFor_eq _ _ _ _⟩
  · exact ⟨_, _, _, _, enterFor_eq _ _ _ _⟩
  · exact ⟨dropQueued q.entry.lp s.round.queue, (withdraw q.entry.lp s).chans, s.units, s.provs, rfl⟩

/-- The record that a grant leaves at its channel. -/
theorem grantEntry_own (q : QueueEntry) (s : State) : let u := grantEntry q s
    u.chans[q.entry.lp].entryQueued = false ∧
      (q.entry.action = .stop → s.chans[q.entry.lp].state = .stopPending →
        u.chans[q.entry.lp].state = .stopRequested ∧ u.stopLine q.entry.lp = true) ∧
      (q.entry.action = .start → s.chans[q.entry.lp].state = .startPending →
        u.chans[q.entry.lp].state = .starting ∧ u.stopLine q.entry.lp = false) := by
  intro u
  rcases grantEntry_cases q s with ⟨ha, hs, h⟩ | ⟨ha, hs, h⟩ | ⟨hstop, hstart, h⟩ <;>
    replace h : u = _ := h <;> rw [h]
  · refine ⟨?_, fun _ _ => ⟨?_, enterFor_stopLine _ _ _ _⟩, fun hn => ?_⟩
    · rw [enter, enterFor_chan_eq]; rfl
    · rw [enter, enterFor_chan_eq]; rfl
    · cases ha.symm.trans hn
  · refine ⟨?_, fun hn => ?_, fun _ _ => ⟨?_, enterFor_stopLine _ _ _ _⟩⟩
    · rw [enter, enterFor_chan_eq]; rfl
    · cases ha.symm.trans hn
    · rw [enter, enterFor_chan_eq]; rfl
  · refine ⟨?_, fun ha hs => absurd ⟨ha, hs⟩ hstop, fun ha hs => absurd ⟨ha, hs⟩ hstart⟩
    rw [withdraw, setChan_chans_self]

/-- An outcome is a grant of an entry that stands in the queue, or changes nothing. -/
theorem applyOutcome_cases (s : State) (x : ListEntry × EntryOutcome) :
    (∃ q ∈ s.round.queue, x.1.own = some q.serial ∧ x.2 = .granted ∧ applyOutcome s x = grantEntry q s) ∨
    ((∀ q ∈ s.round.queue, ¬(x.1.own = some q.serial ∧ x.2 = .granted)) ∧ applyOutcome s x = s) := by
  unfold applyOutcome
  split
  case h_1 q hg hq =>
    exact .inl ⟨q, List.mem_of_find?_eq_some hq, by simpa using List.find?_some hq, hg, rfl⟩
  case h_2 h =>
    refine .inr ⟨fun q hq ⟨ho, hg⟩ => ?_, rfl⟩
    cases hf : s.round.queue.find? fun q => x.1.own == some q.serial with
    | some q' => exact h q' hg hf
    | none => exact absurd (beq_iff_eq.mpr ho) (List.find?_eq_none.mp hf q hq)

theorem applyOutcomes_ownParts : ∀ (xs : List (ListEntry × EntryOutcome)) (s : State),
    s.OwnParts (xs.foldl applyOutcome s)
  | [], s => .refl s
  | x :: xs, s => by
    rw [List.foldl_cons]
    refine State.OwnParts.trans ?_ (applyOutcomes_ownParts xs _)
    rcases applyOutcome_cases s x with ⟨q, -, -, -, h⟩ | ⟨-, h⟩ <;> rw [h]
    · exact grantEntry_ownParts q s
    · exact .refl s

/-- The queue loses entries alone. -/
theorem mem_applyOutcomes : ∀ {xs : List (ListEntry × EntryOutcome)} {s : State} {q : QueueEntry},
    q ∈ (xs.foldl applyOutcome s).round.queue → q ∈ s.round.queue
  | [], _, _, h => h
  | x :: xs, s, q, h => by
    have hq := mem_applyOutcomes (xs := xs) h
    rcases applyOutcome_cases s x with ⟨q', -, -, -, he⟩ | ⟨-, he⟩ <;> rw [he] at hq
    · rw [grantEntry_queue] at hq
      exact List.mem_of_mem_filter hq
    · exact hq

/-- The outcomes leave the record of a load point that has no entry in the queue. -/
theorem applyOutcomes_unqueued {i : LpId} : ∀ (xs : List (ListEntry × EntryOutcome)) {s : State},
    (∀ q ∈ s.round.queue, q.entry.lp ≠ i) → (xs.foldl applyOutcome s).chans[i] = s.chans[i]
  | [], _, _ => rfl
  | x :: xs, s, h => by
    rw [List.foldl_cons]
    rcases applyOutcome_cases s x with ⟨q, hq, -, -, he⟩ | ⟨-, he⟩ <;> rw [he]
    · rw [applyOutcomes_unqueued xs fun q' hq' => ?_, grantEntry_other q s (h q hq).symm]
      rw [grantEntry_queue] at hq'
      exact h q' (List.mem_of_mem_filter hq')
    · exact applyOutcomes_unqueued xs h

/-- The serials and the load points of a queue are each distinct. -/
def Apart (queue : List QueueEntry) : Prop :=
  (queue.map QueueEntry.serial).Nodup ∧ (queue.map fun q => q.entry.lp).Nodup

theorem Apart.drop {queue : List QueueEntry} (h : Apart queue) (i : LpId) : Apart (dropQueued i queue) :=
  ⟨h.1.sublist (List.filter_sublist.map _), h.2.sublist (List.filter_sublist.map _)⟩

theorem Apart.eq_of_serial {queue : List QueueEntry} (h : Apart queue) {q q' : QueueEntry} (hq : q ∈ queue)
    (hq' : q' ∈ queue) (he : q'.serial = q.serial) : q' = q := List.inj_on_of_nodup_map h.1 hq' hq he

theorem Apart.eq_of_lp {queue : List QueueEntry} (h : Apart queue) {q q' : QueueEntry} (hq : q ∈ queue)
    (hq' : q' ∈ queue) (he : q'.entry.lp = q.entry.lp) : q' = q := List.inj_on_of_nodup_map h.2 hq' hq he

theorem exists_granted_cons {n : Nat} {x : ListEntry × EntryOutcome} {xs : List (ListEntry × EntryOutcome)}
    (h : ¬(x.1.own = some n ∧ x.2 = .granted)) : (∃ y ∈ x :: xs, y.1.own = some n ∧ y.2 = .granted) ↔
      ∃ y ∈ xs, y.1.own = some n ∧ y.2 = .granted := by
  simp only [List.mem_cons, or_and_right, exists_or, exists_eq_left, h, false_or]

/-- A queued entry that is granted leaves the queue, and its channel goes on as its grant says; one that is not granted
stays, and so does its channel. -/
theorem applyOutcomes_spec {q : QueueEntry} : ∀ (xs : List (ListEntry × EntryOutcome)) {s : State},
    Apart s.round.queue → q ∈ s.round.queue →
    let u := xs.foldl applyOutcome s
    let granted := ∃ x ∈ xs, x.1.own = some q.serial ∧ x.2 = .granted
    (granted → q ∉ u.round.queue ∧ ∃ t : State, t.chans[q.entry.lp] = s.chans[q.entry.lp] ∧
      u.chans[q.entry.lp] = (grantEntry q t).chans[q.entry.lp]) ∧
    (¬granted → q ∈ u.round.queue ∧ u.chans[q.entry.lp] = s.chans[q.entry.lp])
  | [], s, _, hq => ⟨fun ⟨_, hx, _⟩ => absurd hx List.not_mem_nil, fun _ => ⟨hq, rfl⟩⟩
  | x :: xs, s, ha, hq => by
    intro u granted
    have hu : u = xs.foldl applyOutcome (applyOutcome s x) := rfl
    rcases applyOutcome_cases s x with ⟨q', hq', ho, hg, he⟩ | ⟨hno, he⟩ <;> rw [he] at hu
    · by_cases hself : q' = q
      · subst hself
        have hgone : ∀ p ∈ (grantEntry q' s).round.queue, p.entry.lp ≠ q'.entry.lp := fun p hp => by
          rw [grantEntry_queue] at hp
          simpa using List.of_mem_filter hp
        refine ⟨fun _ => ⟨fun hmem => ?_, s, rfl, ?_⟩, fun hn => absurd ⟨x, List.mem_cons_self, ho, hg⟩ hn⟩
        · rw [hu] at hmem
          exact hgone q' (mem_applyOutcomes hmem) rfl
        · rw [hu]
          exact applyOutcomes_unqueued xs hgone
      · have hlp : q.entry.lp ≠ q'.entry.lp := fun h => hself (ha.eq_of_lp hq hq' h.symm)
        have hstill : q ∈ (grantEntry q' s).round.queue := by
          rw [grantEntry_queue]
          exact List.mem_filter.mpr ⟨hq, by simpa using hlp⟩
        have hapart : Apart (grantEntry q' s).round.queue := grantEntry_queue q' s ▸ ha.drop _
        obtain ⟨hyes, hstays⟩ := applyOutcomes_spec xs hapart hstill
        rw [← hu, grantEntry_other q' s hlp] at hyes hstays
        have hhead : ¬(x.1.own = some q.serial ∧ x.2 = .granted) := fun h =>
          hself (ha.eq_of_serial hq hq' (Option.some.inj (ho.symm.trans h.1)))
        exact ⟨fun h => hyes ((exists_granted_cons hhead).mp h), fun h => hstays (mt (exists_granted_cons hhead).mpr h)⟩
    · obtain ⟨hyes, hstays⟩ := applyOutcomes_spec xs ha hq
      rw [← hu] at hyes hstays
      exact ⟨fun h => hyes ((exists_granted_cons (hno q hq)).mp h),
        fun h => hstays (mt (exists_granted_cons (hno q hq)).mpr h)⟩

/-! ### The close and the guard (R124, R125, R136) -/

/-- The round that has closed, before the outcomes of own entries are applied. -/
def State.closedRound (s : State) : State :=
  s.withRound { s.round with
    phase := .guarding, window := .off, guardT := startAt (millis s.planG), list := [], join := false,
    last := some (closingRecord s (evaluate s)) }

theorem closeRound_eq (s : State) : closeRound s = (evaluate s).1.foldl applyOutcome s.closedRound := rfl

theorem exec_roundClose {s : State} (h : s.round.phase = .opened) :
    exec .roundClose s = .next (settle (closeRound s)) := congrArg _ (if_pos h)

/-- Settles O42. -/
theorem roundsCloseAndGuard : Obligations.RoundsCloseAndGuard := by
  intro s
  refine ⟨fun h => ⟨_, exec_roundClose h, ?_⟩, fun h => congrArg _ (if_pos h)⟩
  have hown : s.closedRound.OwnParts (closeRound s) := applyOutcomes_ownParts _ _
  generalize closeRound s = u at hown
  obtain ⟨queue, chans, units, provs, rfl⟩ := hown
  exact ⟨rfl, rfl, rfl, rfl, rfl, rfl, rfl, rfl, rfl, rfl⟩

/-- Settles O43. -/
theorem grantsReachTheChannels : Obligations.GrantsReachTheChannels := by
  refine ⟨fun s => exec_roundClose, ?_⟩
  intro s u q hu hq hserial hlp granted
  obtain ⟨hyes, hno⟩ := applyOutcomes_spec (q := q) (evaluate s).1 (s := s.closedRound) ⟨hserial, hlp⟩ hq
  rw [← closeRound_eq, ← hu] at hyes hno
  refine ⟨fun hg => ?_, hno⟩
  obtain ⟨hgone, t, ht, hchan⟩ := hyes hg
  have hown := grantEntry_own q t
  simp only [State.stopLine, ← hchan, ht] at hown
  exact ⟨hgone, hown⟩

end Sys2Proof.Machine
end

section
/-! PROOFS, the evaluation at the close (R129 to R134): the sorted order, the walk read entry by entry, and what the start
walk grants. -/

namespace Sys2Proof.Machine

/-! ### The sorted order (R129) -/

/-- The order of R129: level descending, then station ascending, then load point ascending. -/
def InOrder (a b : ListEntry) : Prop :=
  b.entry.level < a.entry.level ∨ b.entry.level = a.entry.level ∧
    (a.station < b.station ∨ a.station = b.station ∧ a.entry.lp ≤ b.entry.lp)

theorem sortsBefore_iff {a b : ListEntry} : sortsBefore a b = true ↔ b.entry.level < a.entry.level ∨
    a.entry.level = b.entry.level ∧ (a.station.toNat < b.station.toNat ∨
      a.station.toNat = b.station.toNat ∧ a.entry.lp.val < b.entry.lp.val) := by
  simp only [sortsBefore, Bool.or_eq_true, Bool.and_eq_true, decide_eq_true_eq, beq_iff_eq, byte_eq_iff, BitVec.lt_def,
    Fin.lt_def]

theorem inOrder_iff {a b : ListEntry} : InOrder a b ↔ b.entry.level < a.entry.level ∨
    b.entry.level = a.entry.level ∧ (a.station.toNat < b.station.toNat ∨
      a.station.toNat = b.station.toNat ∧ a.entry.lp.val ≤ b.entry.lp.val) := by
  simp only [InOrder, byte_eq_iff, BitVec.lt_def, Fin.le_def]

theorem insertSorted_pairwise (e : ListEntry) : ∀ {l : List ListEntry}, l.Pairwise InOrder →
    (insertSorted e l).Pairwise InOrder
  | [], _ => List.pairwise_singleton _ _
  | x :: xs, h => by
    obtain ⟨hx, hxs⟩ := List.pairwise_cons.mp h
    unfold insertSorted
    split
    case isTrue hb =>
      refine List.pairwise_cons.mpr ⟨fun y hy => ?_, h⟩
      rw [sortsBefore_iff] at hb
      rcases List.mem_cons.mp hy with rfl | hy
      · rw [inOrder_iff]
        omega
      · have hxy := inOrder_iff.mp (hx y hy)
        rw [inOrder_iff]
        omega
    case isFalse hb =>
      refine List.pairwise_cons.mpr ⟨fun y hy => ?_, insertSorted_pairwise e hxs⟩
      rcases List.mem_cons.mp ((insertSorted_perm e xs).mem_iff.mp hy) with rfl | hy
      · rw [sortsBefore_iff] at hb
        rw [inOrder_iff]
        omega
      · exact hx y hy

theorem sortEntries_perm : ∀ l : List ListEntry, (sortEntries l).Perm l
  | [] => List.Perm.refl _
  | x :: xs => (insertSorted_perm x _).trans ((sortEntries_perm xs).cons x)

theorem sortEntries_pairwise : ∀ l : List ListEntry, (sortEntries l).Pairwise InOrder
  | [] => List.Pairwise.nil
  | x :: xs => insertSorted_pairwise x (sortEntries_pairwise xs)

/-! ### The walk, entry by entry -/

/-- One entry of the walk. -/
def walkEntry (b : Nat) (figs : FigureTable) (w : Walk) (e : ListEntry) : EntryOutcome × Walk :=
  match e.entry.action with
  | .start => walkStart b figs w e.entry
  | .stop => walkStop figs w e.entry

/-- The sums a walk has reached once it has given these outcomes. -/
inductive Walked (b : Nat) (figs : FigureTable) (w : Walk) : List (ListEntry × EntryOutcome) → Walk → Prop
  | nil : Walked b figs w [] w
  | snoc {done : List (ListEntry × EntryOutcome)} {w' : Walk} (e : ListEntry) : Walked b figs w done w' →
      Walked b figs w (done ++ [(e, (walkEntry b figs w' e).1)]) (walkEntry b figs w' e).2

theorem walk_walked {b : Nat} {figs : FigureTable} {w₀ : Walk} : ∀ (l : List ListEntry)
    {done : List (ListEntry × EntryOutcome)} {w : Walk}, Walked b figs w₀ done w →
    ∃ w', Walked b figs w₀ (done ++ (walk b figs w l).1) w' ∧ (walk b figs w l).2 = w'.used
  | [], done, w, h => ⟨w, (List.append_nil done).symm ▸ h, rfl⟩
  | e :: es, done, w, h => by
    obtain ⟨w', hw', hu⟩ := walk_walked es (.snoc e h)
    rw [List.append_assoc] at hw'
    exact ⟨w', hw', hu⟩

/-- Each outcome of a walk is that of its entry from the sums reached before it. -/
theorem Walked.split {b : Nat} {figs : FigureTable} {w₀ w : Walk} {done : List (ListEntry × EntryOutcome)}
    (h : Walked b figs w₀ done w) : ∀ {pre post x}, done = pre ++ x :: post →
      ∃ w', Walked b figs w₀ pre w' ∧ x.2 = (walkEntry b figs w' x.1).1 := by
  induction h with
  | nil => exact fun he => absurd he.symm (List.append_ne_nil_of_right_ne_nil _ (List.cons_ne_nil _ _))
  | snoc e hw ih =>
    intro pre post x he
    rcases List.eq_nil_or_concat post with rfl | ⟨post', y, rfl⟩
    · obtain ⟨rfl, hx⟩ := List.append_inj' he rfl
      cases hx
      exact ⟨_, hw, rfl⟩
    · rw [List.concat_eq_append, ← List.cons_append, ← List.append_assoc] at he
      exact ih (List.append_inj' he rfl).1

/-- The walk over a station's round. -/
def State.walked (s : State) : List (ListEntry × EntryOutcome) × Nat :=
  walk s.planB s.figureTable (Walk.begin s.figureTable) (sortEntries s.round.list)

theorem evaluate_eq (s : State) : evaluate s = (s.walked.1.map (viewDenial s.deniesOwnStops), s.walked.2) := rfl

theorem State.walked_walked (s : State) : ∃ w, Walked s.planB s.figureTable (Walk.begin s.figureTable) s.walked.1 w ∧
    s.walked.2 = w.used := walk_walked (sortEntries s.round.list) .nil

theorem figureTable_get (s : State) (v : SvcId) : s.figureTable[v] = if s.svcInUse v then
    some { c := s.capacity v, d := s.demand v, r := s.required v, margin := (s.svcBlock v).margin.toNat,
           cmin := (s.svcBlock v).cmin.toNat } else none := by
  rw [State.figureTable, Fin.getElem_fin, Vector.getElem_ofFn]

theorem figureTable_isSome (s : State) (v : SvcId) : s.figureTable[v].isSome = s.svcInUse v := by
  rw [figureTable_get]
  cases s.svcInUse v <;> rfl

/-! ### The sums of the start walk (R130 to R132) -/

/-- The entries granted among those walked. -/
def grantedOf (done : List (ListEntry × EntryOutcome)) : List Entry :=
  (done.filter fun y => y.2 = .granted).map fun y => y.1.entry

theorem grantedOf_append (done : List (ListEntry × EntryOutcome)) (e : ListEntry) (o : EntryOutcome) :
    grantedOf (done ++ [(e, o)]) = grantedOf done ++ if o = .granted then [e.entry] else [] := by
  rw [grantedOf, List.filter_append, List.map_append]
  by_cases h : o = .granted <;> simp [grantedOf, h]

/-- The units of a service among demand pairs. -/
def unitsOf (v : SvcId) (ds : List (SvcId × Nat)) : Nat := ((ds.filter fun d => d.1 = v).map Prod.snd).sum

theorem unitsOf_append (v : SvcId) (ds ds' : List (SvcId × Nat)) :
    unitsOf v (ds ++ ds') = unitsOf v ds + unitsOf v ds' := by
  simp [unitsOf]

/-- The capacity of the starts that bid for a shortfall of a service. -/
def bidFor (v : SvcId) (es : List Entry) : Nat :=
  ((es.filter fun g => g.cause = .shortfall ∧ g.provides = some v).map Entry.capacity).sum

theorem bidFor_append (v : SvcId) (es es' : List Entry) : bidFor v (es ++ es') = bidFor v es + bidFor v es' := by
  simp [bidFor]

theorem addDemands_get (figs : FigureTable) {v : SvcId} (h : figs[v].isSome = true) : ∀ (ds : List (SvcId × Nat))
    (g : Vector Nat 12), (ds.foldl (fun g d => if figs[d.1].isSome then g.set d.1 (g[d.1] + d.2) else g) g)[v] =
      g[v] + unitsOf v ds
  | [], _ => rfl
  | d :: ds, g => by
    rw [List.foldl_cons, addDemands_get figs h ds]
    by_cases hd : d.1 = v
    · have hu : unitsOf v (d :: ds) = d.2 + unitsOf v ds := by simp [unitsOf, hd]
      subst hd
      rw [hu, if_pos h]
      simp [Nat.add_assoc]
    · have hu : unitsOf v (d :: ds) = unitsOf v ds := by simp [unitsOf, hd]
      rw [hu]
      split
      · have hne : d.1.val ≠ v.val := fun he => hd (Fin.ext he)
        simp [hne]
      · rfl

theorem grantStart_granted (figs : FigureTable) (w : Walk) (e : Entry) {v : SvcId} (h : figs[v].isSome = true) :
    (w.grantStart figs e).granted[v] = w.granted[v] + unitsOf v e.demands := addDemands_get figs h _ _

theorem grantStart_added (figs : FigureTable) (w : Walk) (e : Entry) {v : SvcId} (h : figs[v].isSome = true) :
    (w.grantStart figs e).added[v] = w.added[v] + bidFor v [e] := by
  have hadded : (w.grantStart figs e).added = match e.cause, e.provides with
      | .shortfall, some v => if figs[v].isSome then w.added.set v (w.added[v] + e.capacity) else w.added
      | _, _ => w.added := rfl
  rw [hadded]
  split
  case h_1 u hc hp =>
    by_cases hu : u = v
    · have hb : bidFor v [e] = e.capacity := by simp [bidFor, hc, hp, hu]
      rw [hb, hu, if_pos h]
      simp
    · have hb : bidFor v [e] = 0 := by simp [bidFor, hp, hu]
      rw [hb]
      split
      · have hne : u.val ≠ v.val := fun he => hu (Fin.ext he)
        simp [hne]
      · rfl
  case h_2 hno =>
    have hb : bidFor v [e] = 0 := by
      have : ¬(e.cause = .shortfall ∧ e.provides = some v) := fun ⟨hc, hp⟩ => hno v hc hp
      simp [bidFor, this]
    rw [hb]
    rfl

/-- What the start walk has summed once these starts have their outcomes. -/
structure StartSums (b : Nat) (figs : FigureTable) (done : List (ListEntry × EntryOutcome)) (w : Walk) : Prop where
  used : w.used = ((grantedOf done).map Entry.inrush).sum
  granted : ∀ v : SvcId, figs[v].isSome = true → w.granted[v] = unitsOf v ((grantedOf done).flatMap Entry.demands)
  added : ∀ v : SvcId, figs[v].isSome = true → w.added[v] = bidFor v (grantedOf done)
  first : w.first = true ↔ done = []
  ended : w.ended = true ↔ (∃ y ∈ done, y.2 = .deferred) ∨ ∃ y rest, done = y :: rest ∧ b < y.1.entry.inrush
  budget : (∃ y rest, done = y :: rest ∧ b < y.1.entry.inrush ∧ ∀ z ∈ rest, z.2 = .deferred) ∨
    ((∀ y rest, done = y :: rest → y.1.entry.inrush ≤ b) ∧ w.used ≤ b)

theorem startSums_begin (b : Nat) (figs : FigureTable) : StartSums b figs [] (Walk.begin figs) := by
  refine ⟨rfl, fun v _ => ?_, fun v _ => ?_, by simp [Walk.begin], by simp [Walk.begin], .inr ⟨nofun, Nat.zero_le _⟩⟩ <;>
    simp [Walk.begin, unitsOf, bidFor, grantedOf]

/-- A start that the budget leaves out ends the walk of the starts. -/
theorem walkStart_over {b : Nat} {figs : FigureTable} {w : Walk} {e : Entry} (hf : w.first = false)
    (h : w.ended = true ∨ b < w.used + e.inrush) :
    walkStart b figs w e = (.deferred, { w with ended := true }) := by
  unfold walkStart
  by_cases he : w.ended = true
  · rw [if_pos he, ← he]
  · rw [if_neg he, hf, Bool.false_and, if_neg Bool.false_ne_true, if_pos (h.resolve_left he), ← hf]

/-- A start within the budget takes the service tests; a first one above B lets no other follow it. -/
theorem walkStart_within {b : Nat} {figs : FigureTable} {w : Walk} {e : Entry}
    (h : ¬(w.ended = true ∨ w.first = false ∧ b < w.used + e.inrush)) (h0 : w.first = true → w.used = 0) :
    walkStart b figs w e = ((serviceTests figs w e).1, { (serviceTests figs w e).2 with
      first := false, ended := w.first && decide (b < e.inrush) }) := by
  obtain ⟨hended, hroom⟩ := not_or.mp h
  replace hended := Bool.eq_false_iff.mpr hended
  have hkept : (serviceTests figs w e).2.ended = false := by
    rcases serviceTests_cases figs w e with ⟨h, -⟩ | ⟨h, -⟩ | ⟨h, -⟩ <;> rw [h] <;> exact hended
  unfold walkStart
  rw [if_neg (by rw [hended]; exact Bool.false_ne_true)]
  cases hx : w.first && decide (b < e.inrush) with
  | true => rw [if_pos rfl]
  | false =>
    have hfit : ¬b < w.used + e.inrush := by
      cases hf : w.first with
      | true =>
        rw [hf, Bool.true_and, decide_eq_false_iff_not] at hx
        rw [h0 hf, Nat.zero_add]
        exact hx
      | false => exact fun hb => hroom ⟨hf, hb⟩
    rw [if_neg Bool.false_ne_true, if_neg hfit, ← hkept]

theorem StartSums.used_of_first {b : Nat} {figs : FigureTable} {done : List (ListEntry × EntryOutcome)} {w : Walk}
    (h : StartSums b figs done w) (hf : w.first = true) : w.used = 0 := by
  rw [h.used, h.first.mp hf]
  rfl

/-- The walk has ended once a first start has been seen. -/
theorem StartSums.first_of_ended {b : Nat} {figs : FigureTable} {done : List (ListEntry × EntryOutcome)} {w : Walk}
    (h : StartSums b figs done w) (he : w.ended = true) : w.first = false := by
  refine Bool.eq_false_iff.mpr fun hf => ?_
  rw [h.first.mp hf] at h
  rcases h.ended.mp he with ⟨y, hy, -⟩ | ⟨y, rest, hc, -⟩
  · cases hy
  · cases hc

/-- The sums after a start that is deferred. -/
theorem StartSums.defer {b : Nat} {figs : FigureTable} {done : List (ListEntry × EntryOutcome)} {w : Walk}
    (h : StartSums b figs done w) (hf : w.first = false) (e : ListEntry) :
    StartSums b figs (done ++ [(e, .deferred)]) { w with ended := true } := by
  have hg : grantedOf (done ++ [(e, .deferred)]) = grantedOf done := by
    rw [grantedOf_append, if_neg (by decide), List.append_nil]
  refine ⟨hg ▸ h.used, hg ▸ h.granted, hg ▸ h.added, by simp [hf], ?_, ?_⟩
  · exact ⟨fun _ => .inl ⟨_, List.mem_append_right _ List.mem_cons_self, rfl⟩, fun _ => rfl⟩
  · rcases h.budget with ⟨y, rest, hd, hy, hall⟩ | ⟨hfirst, hu⟩
    · refine .inl ⟨y, rest ++ [(e, .deferred)], by rw [hd]; rfl, hy, fun z hz => ?_⟩
      rcases List.mem_append.mp hz with hz | hz
      · exact hall z hz
      · rw [List.mem_singleton.mp hz]
    · refine .inr ⟨fun y rest hd => ?_, hu⟩
      cases done with
      | nil => exact absurd (h.first.mpr rfl) (hf ▸ Bool.false_ne_true)
      | cons z zs => exact (List.cons.inj hd).1 ▸ hfirst z zs rfl

/-- The service tests add a start to the sums exactly when they grant it. -/
theorem StartSums.tests {b : Nat} {figs : FigureTable} {done : List (ListEntry × EntryOutcome)} {w : Walk}
    (h : StartSums b figs done w) (e : ListEntry) {o : EntryOutcome} {w' : Walk}
    (ht : serviceTests figs w e.entry = (o, w')) :
    o ≠ .deferred ∧ w'.used ≤ w.used + e.entry.inrush ∧
    w'.used = ((grantedOf (done ++ [(e, o)])).map Entry.inrush).sum ∧
    (∀ v : SvcId, figs[v].isSome = true →
      w'.granted[v] = unitsOf v ((grantedOf (done ++ [(e, o)])).flatMap Entry.demands)) ∧
    (∀ v : SvcId, figs[v].isSome = true → w'.added[v] = bidFor v (grantedOf (done ++ [(e, o)]))) := by
  have hskip (ho : o ≠ .granted) : grantedOf (done ++ [(e, o)]) = grantedOf done := by
    rw [grantedOf_append, if_neg ho, List.append_nil]
  rcases serviceTests_cases figs w e.entry with ⟨he, -⟩ | ⟨he, -⟩ | ⟨he, -⟩ <;>
    obtain ⟨rfl, rfl⟩ := Prod.mk.inj (ht.symm.trans he)
  · rw [hskip (by decide)]
    exact ⟨by decide, Nat.le_add_right _ _, h.used, h.granted, h.added⟩
  · rw [hskip (by decide)]
    exact ⟨by decide, Nat.le_add_right _ _, h.used, h.granted, h.added⟩
  · have hg : grantedOf (done ++ [(e, .granted)]) = grantedOf done ++ [e.entry] := by
      rw [grantedOf_append, if_pos rfl]
    rw [hg]
    refine ⟨by decide, Nat.le_refl _, ?_, fun v hv => ?_, fun v hv => ?_⟩
    · rw [List.map_append, List.sum_append, ← h.used]
      simp [Walk.grantStart]
    · rw [grantStart_granted figs w e.entry hv, h.granted v hv, List.flatMap_append, unitsOf_append]
      simp
    · rw [grantStart_added figs w e.entry hv, h.added v hv, bidFor_append]

/-- The sums after one more start. -/
theorem StartSums.step {b : Nat} {figs : FigureTable} {done : List (ListEntry × EntryOutcome)} {w : Walk}
    (h : StartSums b figs done w) (e : ListEntry) :
    StartSums b figs (done ++ [(e, (walkStart b figs w e.entry).1)]) (walkStart b figs w e.entry).2 := by
  by_cases hover : w.ended = true ∨ w.first = false ∧ b < w.used + e.entry.inrush
  · have hf : w.first = false := hover.elim h.first_of_ended And.left
    rw [walkStart_over hf (hover.imp_right And.right)]
    exact h.defer hf e
  · obtain ⟨hended, hroom⟩ := not_or.mp hover
    have hfits : w.first = true ∨ w.used + e.entry.inrush ≤ b := by
      cases hf : w.first with
      | true => exact .inl rfl
      | false => exact .inr (Nat.not_lt.mp fun hb => hroom ⟨hf, hb⟩)
    rw [walkStart_within hover h.used_of_first]
    have hnone := mt h.ended.mpr hended
    obtain ⟨⟨o, w'⟩, ht⟩ : ∃ r, serviceTests figs w e.entry = r := ⟨_, rfl⟩
    obtain ⟨hno, hle, hused, hgranted, hadded⟩ := h.tests e ht
    rw [ht]
    refine ⟨hused, hgranted, hadded, by simp, ?_, ?_⟩
    · rw [Bool.and_eq_true, decide_eq_true_eq, h.first]
      cases done with
      | nil => simp [hno]
      | cons z zs =>
        refine ⟨fun hc => (nomatch hc.1), fun hc => absurd ?_ hnone⟩
        rcases hc with ⟨y, hy, hd⟩ | ⟨y, rest, hd, hy⟩
        · rcases List.mem_append.mp hy with hy | hy
          · exact .inl ⟨y, hy, hd⟩
          · rw [List.mem_singleton.mp hy] at hd
            exact absurd hd hno
        · exact .inr ⟨z, zs, rfl, (List.cons.inj hd).1 ▸ hy⟩
    · cases done with
      | nil =>
        by_cases hb : b < e.entry.inrush
        · exact .inl ⟨(e, o), [], rfl, hb, nofun⟩
        · refine .inr ⟨fun y rest hd => (List.cons.inj hd).1 ▸ Nat.not_lt.mp hb, ?_⟩
          have h0 := h.used_of_first (h.first.mpr rfl)
          exact hle.trans (by omega)
      | cons z zs =>
        have hf : ¬w.first = true := mt h.first.mp (List.cons_ne_nil _ _)
        refine .inr ⟨fun y rest hd => ?_, hle.trans (hfits.resolve_left hf)⟩
        exact Nat.not_lt.mp fun hb => hnone (.inr ⟨z, zs, rfl, (List.cons.inj hd).1 ▸ hb⟩)

/-- The starts among the entries walked. -/
def startsOf (done : List (ListEntry × EntryOutcome)) : List (ListEntry × EntryOutcome) :=
  done.filter fun x => x.1.entry.action = .start

theorem walkStop_keeps (figs : FigureTable) (w : Walk) (e : Entry) :
    ∃ remaining, (walkStop figs w e).2 = { w with remaining } := by
  unfold walkStop
  split
  · exact ⟨_, rfl⟩
  · split
    · exact ⟨_, rfl⟩
    · split <;> exact ⟨_, rfl⟩

theorem Walked.startSums {b : Nat} {figs : FigureTable} {done : List (ListEntry × EntryOutcome)} {w : Walk}
    (h : Walked b figs (Walk.begin figs) done w) : StartSums b figs (startsOf done) w := by
  induction h with
  | nil => exact startSums_begin b figs
  | snoc e hw ih =>
    rw [startsOf, List.filter_append]
    cases ha : e.entry.action with
    | start =>
      have he : ∀ w, walkEntry b figs w e = walkStart b figs w e.entry := fun w => by rw [walkEntry, ha]
      rw [List.filter_cons_of_pos (by simp [ha]), List.filter_nil, he]
      exact ih.step e
    | stop =>
      have he : ∀ w, walkEntry b figs w e = walkStop figs w e.entry := fun w => by rw [walkEntry, ha]
      rw [List.filter_cons_of_neg (by simp [ha]), List.filter_nil, List.append_nil, he]
      obtain ⟨remaining, hr⟩ := walkStop_keeps figs _ e.entry
      rw [hr]
      exact ⟨ih.used, ih.granted, ih.added, ih.first, ih.ended, ih.budget⟩

/-- The starts of an evaluation are those of the walk, with its outcomes. -/
theorem evaluate_starts (s : State) : startsOf (evaluate s).1 = startsOf s.walked.1 := by
  rw [evaluate_eq]
  induction s.walked.1 with
  | nil => rfl
  | cons x xs ih =>
    rw [startsOf, startsOf, List.map_cons]
    by_cases ha : x.1.entry.action = .start
    · rw [viewDenial_of_start _ ha, List.filter_cons_of_pos (by simp [ha]), List.filter_cons_of_pos (by simp [ha])]
      exact congrArg (x :: ·) ih
    · rw [List.filter_cons_of_neg (by simpa [viewDenial_fst] using ha), List.filter_cons_of_neg (by simpa using ha)]
      exact ih

/-- The evaluation keeps the sorted list. -/
theorem evaluate_fst (s : State) : (evaluate s).1.map Prod.fst = sortEntries s.round.list := by
  rw [evaluate_eq, List.map_map]
  have hfst : Prod.fst ∘ viewDenial s.deniesOwnStops = Prod.fst := funext (viewDenial_fst _)
  rw [hfst]
  exact walk_fst _ _ _ _

/-- The starts before one in a walk, with the sums that its outcome rests on. -/
theorem Walked.splitStart {b : Nat} {figs : FigureTable} {w₀ w : Walk} {done : List (ListEntry × EntryOutcome)}
    (h : Walked b figs w₀ done w) {pre post : List (ListEntry × EntryOutcome)} {x : ListEntry × EntryOutcome}
    (hs : startsOf done = pre ++ x :: post) :
    ∃ before w', Walked b figs w₀ before w' ∧ startsOf before = pre ∧ x.2 = (walkStart b figs w' x.1.entry).1 := by
  obtain ⟨l₁, l₂, rfl, rfl, hx⟩ := List.filter_eq_append_iff.mp hs
  obtain ⟨m₁, m₂, rfl, hnone, hax, -⟩ := List.filter_eq_cons_iff.mp hx
  rw [← List.append_assoc] at h
  obtain ⟨w', hw', hout⟩ := h.split rfl
  refine ⟨l₁ ++ m₁, w', hw', ?_, ?_⟩
  · rw [startsOf, List.filter_append, List.filter_eq_nil_iff.mpr hnone, List.append_nil]
  · rw [hout, walkEntry, of_decide_eq_true hax]

/-- A demand of an in-use service is covered with the units granted before it. -/
theorem pairPasses_iff {s : State} {w : Walk} {d : SvcId × Nat} {granted : Nat}
    (h : s.figureTable[d.1].isSome = true → w.granted[d.1] = granted) : pairPasses s.figureTable w d = true ↔
    ¬(s.svcInUse d.1 = true ∧ s.capacity d.1 < max (s.svcBlock d.1).cmin.toNat
      (((s.demand d.1 + granted + d.2) * (100 + (s.svcBlock d.1).margin.toNat) + 99) / 100)) := by
  rw [figureTable_isSome] at h
  unfold pairPasses
  rw [figureTable_get]
  cases hu : s.svcInUse d.1 with
  | false => simp
  | true =>
    rw [h hu]
    simp [requiredFor]

theorem notNeeded_iff {s : State} {w : Walk} {e : Entry} {added : SvcId → Nat}
    (h : ∀ v, s.figureTable[v].isSome = true → w.added[v] = added v) : notNeeded s.figureTable w e = true ↔
    ∃ v, e.cause = .shortfall ∧ e.provides = some v ∧ s.svcInUse v = true ∧ s.required v ≤ s.capacity v + added v := by
  unfold notNeeded
  split
  case h_1 v hc hp =>
    rw [figureTable_get]
    cases hu : s.svcInUse v with
    | false => simp [hc, hp, hu]
    | true =>
      have hv := h v ((figureTable_isSome s v).trans hu)
      simp [hc, hp, hu, hv]
  case h_2 hno => exact iff_of_false Bool.false_ne_true fun ⟨v, hc, hp, _⟩ => hno v hc hp

/-- Where the first start is above B, it alone may be granted. -/
theorem filter_granted_of_over {y : ListEntry × EntryOutcome} {rest : List (ListEntry × EntryOutcome)}
    (h : ∀ z ∈ rest, z.2 = .deferred) : ((y :: rest).filter fun x => x.2 = .granted) = [] ∨
      ((y :: rest).filter fun x => x.2 = .granted) = [y] := by
  have hrest : (rest.filter fun x => x.2 = .granted) = [] :=
    List.filter_eq_nil_iff.mpr fun z hz => by simp [h z hz]
  by_cases hy : y.2 = .granted
  · exact .inr (by rw [List.filter_cons_of_pos (by simp [hy]), hrest])
  · exact .inl (by rw [List.filter_cons_of_neg (by simp [hy]), hrest])

/-- The starts in sorted order, and those granted. -/
theorem starts_sorted (s : State) : ((sortEntries s.round.list).filter fun e => e.entry.action = .start) =
    (startsOf s.walked.1).map Prod.fst := by
  rw [← evaluate_starts, ← evaluate_fst, List.filter_map]
  rfl

theorem starts_granted (s : State) :
    ((evaluate s).1.filter fun x => x.1.entry.action = .start ∧ x.2 = .granted) =
      (startsOf s.walked.1).filter fun x => x.2 = .granted := by
  rw [← evaluate_starts, startsOf, List.filter_filter]
  simp only [Bool.decide_and, Bool.and_comm]

/-- Settles O44. -/
theorem grantedStartsKeepTheBudget : Obligations.GrantedStartsKeepTheBudget := by
  refine ⟨fun s => ⟨sortEntries_perm _, sortEntries_pairwise _, evaluate_fst s⟩, fun s => ?_,
    fun s pre post e x hx he => ?_⟩
  · rw [starts_sorted, starts_granted]
    intro starts granted
    obtain ⟨w, hw, hend⟩ := s.walked_walked
    obtain ⟨hused, -, -, -, -, hbudget⟩ := hw.startSums
    have hsum : (granted.map fun e => e.entry.inrush).sum = w.used := by
      rw [hused, grantedOf, List.map_map, List.map_map]
      rfl
    rw [hsum]
    rcases hbudget with ⟨y, rest, hd, hy, hall⟩ | ⟨hfirst, hu⟩
    · have hstarts : starts = y.1 :: rest.map Prod.fst := congrArg (List.map Prod.fst) hd
      have hcases : granted = [] ∨ granted = [y.1] := by
        rcases filter_granted_of_over (y := y) hall with h | h <;> rw [← hd] at h
        · exact .inl (congrArg (List.map Prod.fst) h)
        · exact .inr (congrArg (List.map Prod.fst) h)
      refine ⟨hend.symm, ?_, fun e r he _ => ?_⟩
      · rcases hcases with h | h
        · rw [h] at hsum
          exact .inl (hsum ▸ Nat.zero_le _)
        · exact .inr ⟨y.1, _, hstarts, hy, h⟩
      · rw [(List.cons.inj (he.symm.trans hstarts)).1]
        exact hcases
    · refine ⟨hend.symm, .inl hu, fun e r he hb => ?_⟩
      obtain ⟨y, rest, hd, rfl, -⟩ := List.map_eq_cons_iff.mp he
      exact absurd (hfirst y rest hd) (Nat.not_le.mpr hb)
  · intro granted ended exceeds demandWith uncovered met
    obtain ⟨w₁, hw₁, -⟩ := s.walked_walked
    obtain ⟨before, w, hw, hpre, hout⟩ := hw₁.splitStart ((evaluate_starts s).symm.trans hx)
    have hsums := hw.startSums
    rw [hpre] at hsums
    rw [← he] at hout
    have hover : ended ∨ exceeds ↔ w.ended = true ∨ w.first = false ∧ s.planB < w.used + e.inrush := by
      rw [hsums.ended, hsums.used, ← Bool.not_eq_true, hsums.first]
      exact Iff.rfl
    have huncovered : uncovered ↔ ¬∀ d ∈ e.demands, pairPasses s.figureTable w d = true := by
      refine ⟨fun ⟨d, hd, hc⟩ hall => (pairPasses_iff (hsums.granted d.1)).mp (hall d hd) hc, fun h => ?_⟩
      by_contra hn
      exact h fun d hd => (pairPasses_iff (hsums.granted d.1)).mpr fun hc => hn ⟨d, hd, hc⟩
    have hmet : met ↔ notNeeded s.figureTable w e = true := (notNeeded_iff hsums.added).symm
    have hwithin : ¬(ended ∨ exceeds) → x.2 = (serviceTests s.figureTable w e).1 := fun h => by
      rw [hout, walkStart_within (mt hover.mpr h) hsums.used_of_first]
    rw [huncovered, hmet]
    refine ⟨fun h => ?_, fun h hu => ?_, fun h hu hm => ?_, fun h hu hm => ?_⟩
    · rw [hover] at h
      rw [hout, walkStart_over (h.elim hsums.first_of_ended And.left) (h.imp_right And.right)]
    all_goals
      rw [hwithin h]
      rcases serviceTests_cases s.figureTable w e with ⟨ht, hd⟩ | ⟨ht, hd, hn⟩ | ⟨ht, hd, hn⟩ <;> rw [ht]
    · exact absurd hd hu
    · exact absurd hd hu
    · exact absurd hd hu
    · rw [hn] at hm
      cases hm
    · exact absurd hd hu
    · exact absurd hn hm

end Sys2Proof.Machine
end

section
/-! PROOFS, the stops of the evaluation (R133, R134, R138). -/

namespace Sys2Proof.Machine

/-- The stops among the entries walked. -/
def stopsOf (done : List (ListEntry × EntryOutcome)) : List (ListEntry × EntryOutcome) :=
  done.filter fun x => x.1.entry.action = .stop

/-- The capacities of the stops of a service that were granted. -/
def takenOf (v : SvcId) (done : List (ListEntry × EntryOutcome)) : List Nat :=
  (done.filter fun y => y.1.entry.provides = some v ∧ y.2 = .granted).map fun y => y.1.entry.capacity

theorem takenOf_append (v : SvcId) (done : List (ListEntry × EntryOutcome)) (e : ListEntry) (o : EntryOutcome) :
    takenOf v (done ++ [(e, o)]) =
      takenOf v done ++ if e.entry.provides = some v ∧ o = .granted then [e.entry.capacity] else [] := by
  rw [takenOf, List.filter_append, List.map_append]
  by_cases h : e.entry.provides = some v ∧ o = .granted
  · rw [if_pos h, List.filter_cons_of_pos (by simpa using h)]
    rfl
  · rw [if_neg h, List.filter_cons_of_neg (by simpa using h)]
    rfl

/-- A stop that provides no service in use. -/
theorem walkStop_denied {figs : FigureTable} {w : Walk} {e : Entry}
    (h : ∀ v, e.provides = some v → figs[v] = none) : walkStop figs w e = (.deniedService, w) := by
  unfold walkStop
  split
  case h_1 => rfl
  case h_2 v hp => rw [h v hp]

theorem walkStop_of {figs : FigureTable} {w : Walk} {e : Entry} {v : SvcId} {f : Figures} (hp : e.provides = some v)
    (hf : figs[v] = some f) : walkStop figs w e = if e.capacity + f.r ≤ w.remaining[v] then
      (.granted, { w with remaining := w.remaining.set v (w.remaining[v] - e.capacity) })
    else (.deniedCapacity, w) := by
  unfold walkStop
  rw [hp]
  dsimp only
  rw [hf]

/-- What the stop walk has taken once these stops have their outcomes: of a service in use it leaves R(s). -/
structure StopSums (figs : FigureTable) (done : List (ListEntry × EntryOutcome)) (w : Walk) : Prop where
  unseen : ∀ y ∈ done, y.2 ≠ .deniedView
  unused : ∀ v : SvcId, figs[v] = none → takenOf v done = []
  remaining : ∀ (v : SvcId) (f : Figures), figs[v] = some f → w.remaining[v] + (takenOf v done).sum = f.c
  covered : ∀ (v : SvcId) (f : Figures), figs[v] = some f → takenOf v done ≠ [] → (takenOf v done).sum + f.r ≤ f.c

theorem stopSums_begin (figs : FigureTable) : StopSums figs [] (Walk.begin figs) := by
  refine ⟨nofun, fun _ _ => rfl, fun v f hf => ?_, fun _ _ _ h => absurd rfl h⟩
  simp only [Walk.begin, Fin.getElem_fin, Vector.getElem_ofFn]
  rw [Fin.getElem_fin] at hf
  simp [hf, takenOf]

/-- An outcome that grants nothing leaves the sums. -/
theorem StopSums.deny {figs : FigureTable} {done : List (ListEntry × EntryOutcome)} {w : Walk}
    (h : StopSums figs done w) (e : ListEntry) {o : EntryOutcome} (hg : o ≠ .granted) (hv : o ≠ .deniedView) :
    StopSums figs (done ++ [(e, o)]) w := by
  have ht (v : SvcId) : takenOf v (done ++ [(e, o)]) = takenOf v done := by
    rw [takenOf_append, if_neg fun hc => hg hc.2, List.append_nil]
  refine ⟨fun y hy => ?_, fun v => ht v ▸ h.unused v, fun v => ht v ▸ h.remaining v, fun v => ht v ▸ h.covered v⟩
  rcases List.mem_append.mp hy with hy | hy
  · exact h.unseen y hy
  · rw [List.mem_singleton.mp hy]
    exact hv

theorem StopSums.grant {figs : FigureTable} {done : List (ListEntry × EntryOutcome)} {w : Walk}
    (h : StopSums figs done w) (e : ListEntry) {v : SvcId} {f : Figures} (hp : e.entry.provides = some v)
    (hf : figs[v] = some f) (hroom : e.entry.capacity + f.r ≤ w.remaining[v]) :
    StopSums figs (done ++ [(e, .granted)])
      { w with remaining := w.remaining.set v (w.remaining[v] - e.entry.capacity) } := by
  have hself : takenOf v (done ++ [(e, .granted)]) = takenOf v done ++ [e.entry.capacity] := by
    rw [takenOf_append, if_pos ⟨hp, rfl⟩]
  have hother {u : SvcId} (hu : u ≠ v) : takenOf u (done ++ [(e, .granted)]) = takenOf u done := by
    rw [takenOf_append, if_neg fun hc => hu (Option.some.inj (hc.1.symm.trans hp)), List.append_nil]
  have hrem := h.remaining v f hf
  refine ⟨fun y hy => ?_, fun u hu => ?_, fun u g hg => ?_, fun u g hg hne => ?_⟩
  · rcases List.mem_append.mp hy with hy | hy
    · exact h.unseen y hy
    · rw [List.mem_singleton.mp hy]
      nofun
  · have huv : u ≠ v := fun he => by
      rw [he, hf] at hu
      cases hu
    rw [hother huv]
    exact h.unused u hu
  · by_cases huv : u = v
    · subst huv
      cases hf.symm.trans hg
      simp only [Fin.getElem_fin] at hroom hrem ⊢
      rw [hself, List.sum_append, List.sum_singleton, Vector.getElem_set_self]
      omega
    · rw [hother huv]
      have hval : v.val ≠ u.val := fun he => huv (Fin.ext he.symm)
      simpa [hval] using h.remaining u g hg
  · by_cases huv : u = v
    · subst huv
      cases hf.symm.trans hg
      rw [hself, List.sum_append, List.sum_singleton]
      omega
    · rw [hother huv] at hne ⊢
      exact h.covered u g hg hne

theorem StopSums.step {figs : FigureTable} {done : List (ListEntry × EntryOutcome)} {w : Walk}
    (h : StopSums figs done w) (e : ListEntry) :
    StopSums figs (done ++ [(e, (walkStop figs w e.entry).1)]) (walkStop figs w e.entry).2 := by
  by_cases hused : ∃ v f, e.entry.provides = some v ∧ figs[v] = some f
  · obtain ⟨v, f, hp, hf⟩ := hused
    rw [walkStop_of hp hf]
    split
    · exact h.grant e hp hf ‹_›
    · exact h.deny e nofun nofun
  · rw [walkStop_denied fun v hp => Option.eq_none_iff_forall_ne_some.mpr fun f hf => hused ⟨v, f, hp, hf⟩]
    exact h.deny e nofun nofun

/-- A start leaves what remains for the stops. -/
theorem walkStart_remaining (b : Nat) (figs : FigureTable) (w : Walk) (e : Entry) :
    (walkStart b figs w e).2.remaining = w.remaining := by
  have ht : (serviceTests figs w e).2.remaining = w.remaining := by
    rcases serviceTests_cases figs w e with ⟨h, -⟩ | ⟨h, -⟩ | ⟨h, -⟩ <;> rw [h]
    rfl
  unfold walkStart
  split
  · rfl
  · split
    · exact ht
    · split
      · rfl
      · exact ht

theorem Walked.stopSums {b : Nat} {figs : FigureTable} {done : List (ListEntry × EntryOutcome)} {w : Walk}
    (h : Walked b figs (Walk.begin figs) done w) : StopSums figs (stopsOf done) w := by
  induction h with
  | nil => exact stopSums_begin figs
  | snoc e hw ih =>
    rw [stopsOf, List.filter_append]
    cases ha : e.entry.action with
    | start =>
      have he : ∀ w, walkEntry b figs w e = walkStart b figs w e.entry := fun w => by rw [walkEntry, ha]
      rw [List.filter_cons_of_neg (by simp [ha]), List.filter_nil, List.append_nil, he]
      refine ⟨ih.unseen, ih.unused, fun v f hf => ?_, ih.covered⟩
      rw [walkStart_remaining]
      exact ih.remaining v f hf
    | stop =>
      have he : ∀ w, walkEntry b figs w e = walkStop figs w e.entry := fun w => by rw [walkEntry, ha]
      rw [List.filter_cons_of_pos (by simp [ha]), List.filter_nil, he]
      exact ih.step e

/-- The stops before one in a walk, with the sums that its outcome rests on. -/
theorem Walked.splitStop {b : Nat} {figs : FigureTable} {w₀ w : Walk} {done : List (ListEntry × EntryOutcome)}
    (h : Walked b figs w₀ done w) {pre post : List (ListEntry × EntryOutcome)} {x : ListEntry × EntryOutcome}
    (hs : stopsOf done = pre ++ x :: post) :
    ∃ before w', Walked b figs w₀ before w' ∧ stopsOf before = pre ∧ x.2 = (walkStop figs w' x.1.entry).1 := by
  obtain ⟨l₁, l₂, rfl, rfl, hx⟩ := List.filter_eq_append_iff.mp hs
  obtain ⟨m₁, m₂, rfl, hnone, hax, -⟩ := List.filter_eq_cons_iff.mp hx
  rw [← List.append_assoc] at h
  obtain ⟨w', hw', hout⟩ := h.split rfl
  refine ⟨l₁ ++ m₁, w', hw', ?_, ?_⟩
  · rw [stopsOf, List.filter_append, List.filter_eq_nil_iff.mpr hnone, List.append_nil]
  · rw [hout, walkEntry, of_decide_eq_true hax]

/-! ### The denial of own stops (R134, R138) -/

/-- The stops of an evaluation are those of the walk, the own ones denied where the view may be incomplete. -/
theorem evaluate_stops (s : State) :
    stopsOf (evaluate s).1 = (stopsOf s.walked.1).map (viewDenial s.deniesOwnStops) := by
  rw [evaluate_eq, stopsOf, stopsOf, List.filter_map]
  refine congrArg _ (List.filter_congr fun x _ => ?_)
  simp only [Function.comp_apply, viewDenial_fst]

theorem deniesOwnStops_iff {s : State} : s.deniesOwnStops = true ↔
    s.mode.isolated = true ∨ s.viewOverflow = true ∨ s.round.doubtful = true ∨ s.inConflict = true := by
  simp only [State.deniesOwnStops, Bool.or_eq_true, or_assoc]

theorem viewDenial_of_stop {d : Bool} {x : ListEntry × EntryOutcome} (ha : x.1.entry.action = .stop) :
    (viewDenial d x).2 = if d = true ∧ x.1.own.isSome = true ∧ x.2 = .granted then .deniedView else x.2 := by
  have hc : (d && x.1.own.isSome && x.1.entry.action == .stop && x.2 == .granted) = true ↔
      d = true ∧ x.1.own.isSome = true ∧ x.2 = .granted := by
    simp [ha, and_assoc]
  unfold viewDenial
  by_cases h : d = true ∧ x.1.own.isSome = true ∧ x.2 = .granted
  · rw [if_pos (hc.mpr h), if_pos h]
  · rw [if_neg (mt hc.mp h), if_neg h]

/-- A denial for VIEW turns grants alone back. -/
theorem viewDenial_granted {d : Bool} {x : ListEntry × EntryOutcome} (h : (viewDenial d x).2 = .granted) :
    x.2 = .granted := by
  unfold viewDenial at h
  split at h
  · cases h
  · exact h

/-- What the walk took for stops is what the evaluation shows as granted or denied for VIEW. -/
theorem takenOf_viewDenial {d : Bool} {v : SvcId} {l : List (ListEntry × EntryOutcome)}
    (hstop : ∀ y ∈ l, y.1.entry.action = .stop) (hview : ∀ y ∈ l, y.2 ≠ .deniedView) :
    (((l.map (viewDenial d)).filter fun y =>
      y.1.entry.provides = some v ∧ (y.2 = .granted ∨ y.2 = .deniedView)).map fun y => y.1.entry.capacity) =
      takenOf v l := by
  rw [List.filter_map, List.map_map, takenOf]
  have hfst : (fun y : ListEntry × EntryOutcome => y.1.entry.capacity) ∘ viewDenial d = fun y => y.1.entry.capacity :=
    funext fun y => by rw [Function.comp_apply, viewDenial_fst]
  rw [hfst]
  refine congrArg _ (List.filter_congr fun y hy => ?_)
  rw [Function.comp_apply, viewDenial_fst, viewDenial_of_stop (hstop y hy)]
  refine decide_eq_decide.mpr (and_congr_right fun _ => ?_)
  by_cases h : d = true ∧ y.1.own.isSome = true ∧ y.2 = .granted
  · rw [if_pos h]
    exact iff_of_true (.inr rfl) h.2.2
  · rw [if_neg h]
    exact ⟨fun hc => hc.resolve_right (hview y hy), .inl⟩

theorem mem_stopsOf {l : List (ListEntry × EntryOutcome)} {x : ListEntry × EntryOutcome} :
    x ∈ stopsOf l ↔ x ∈ l ∧ x.1.entry.action = .stop := by
  simp [stopsOf]

/-- Of a service, the stops that an evaluation shows as granted are among those the walk granted. -/
theorem evaluate_taken_sublist (s : State) (v : SvcId) : (((evaluate s).1.filter fun x =>
      x.1.entry.action = .stop ∧ x.1.entry.provides = some v ∧ x.2 = .granted).map fun x =>
        x.1.entry.capacity).Sublist (takenOf v (stopsOf s.walked.1)) := by
  have hsplit : ((evaluate s).1.filter fun x =>
      x.1.entry.action = .stop ∧ x.1.entry.provides = some v ∧ x.2 = .granted) =
      (stopsOf (evaluate s).1).filter fun x => x.1.entry.provides = some v ∧ x.2 = .granted := by
    rw [stopsOf, List.filter_filter]
    simp only [Bool.decide_and, Bool.and_comm]
  rw [hsplit, evaluate_stops, List.filter_map, List.map_map, takenOf]
  have hfst : (fun y : ListEntry × EntryOutcome => y.1.entry.capacity) ∘ viewDenial s.deniesOwnStops =
      fun y => y.1.entry.capacity := funext fun y => by rw [Function.comp_apply, viewDenial_fst]
  rw [hfst]
  refine List.Sublist.map _ (List.monotone_filter_right _ fun x hx => ?_)
  simp only [Function.comp_apply, viewDenial_fst, decide_eq_true_eq] at hx ⊢
  exact ⟨hx.1, viewDenial_granted hx.2⟩

/-- Settles O45. -/
theorem grantedStopsKeepTheRequirement : Obligations.GrantedStopsKeepTheRequirement := by
  refine ⟨fun s => ⟨fun v => ?_, fun hd x hx ho ha hg => ?_⟩, fun s pre post e x hx he => ?_⟩
  · intro stops hne
    obtain ⟨w, hw, -⟩ := s.walked_walked
    have hsums := hw.stopSums
    have hsub := evaluate_taken_sublist s v
    have htaken : takenOf v (stopsOf s.walked.1) ≠ [] := fun hn => hne (List.sublist_nil.mp (hn ▸ hsub))
    cases hu : s.svcInUse v with
    | false => exact absurd (hsums.unused v (by rw [figureTable_get, hu]; rfl)) htaken
    | true =>
      have hcov := hsums.covered v _ (by rw [figureTable_get, hu]; rfl) htaken
      exact ⟨rfl, Nat.le_trans (Nat.add_le_add_right (hsub.sum_le_sum fun _ _ => Nat.zero_le _) _) hcov⟩
  · rw [evaluate_eq] at hx
    obtain ⟨y, hy, rfl⟩ := List.mem_map.mp hx
    rw [viewDenial_fst] at ho ha
    have hgy := viewDenial_granted hg
    rw [viewDenial_of_stop ha, if_pos ⟨deniesOwnStops_iff.mpr hd, ho, hgy⟩] at hg
    cases hg
  · intro incomplete taken
    obtain ⟨w₁, hw₁, -⟩ := s.walked_walked
    obtain ⟨l₁, l₂, hl, rfl, h₂⟩ := List.map_eq_append_iff.mp ((evaluate_stops s).symm.trans hx)
    obtain ⟨y, l₃, rfl, rfl, -⟩ := List.map_eq_cons_iff.mp h₂
    obtain ⟨before, w, hw, rfl, hout⟩ := hw₁.splitStop hl
    have hsums := hw.stopSums
    have ha : y.1.entry.action = .stop := (mem_stopsOf.mp (hl ▸ List.mem_append_right _ List.mem_cons_self)).2
    rw [viewDenial_fst] at he
    rw [← he] at hout
    have htaken (v : SvcId) : taken v = (takenOf v (stopsOf before)).sum :=
      congrArg List.sum (takenOf_viewDenial (fun _ hz => (mem_stopsOf.mp hz).2) hsums.unseen)
    rw [viewDenial_of_stop ha, viewDenial_fst]
    have hdenied {o : EntryOutcome} (ho : o ≠ .granted) (hy : y.2 = o) :
        (if s.deniesOwnStops = true ∧ y.1.own.isSome = true ∧ y.2 = .granted then .deniedView else y.2) = o := by
      rw [hy, if_neg fun hc => ho hc.2.2]
    refine ⟨fun hno => hdenied nofun ?_, fun v hp hu => ?_⟩
    · rw [hout, walkStop_denied fun v hp => by rw [figureTable_get, hno v hp]; rfl]
    · have hf := figureTable_get s v
      rw [hu, if_pos rfl] at hf
      have hrem := hsums.remaining v _ hf
      have hstep := walkStop_of hp hf (w := w)
      rw [htaken v]
      refine ⟨fun hover => hdenied nofun ?_, fun hroom => ?_⟩
      · rw [hout, hstep, if_neg (by dsimp only at hrem ⊢; omega)]
      · have hg : y.2 = .granted := by rw [hout, hstep, if_pos (by dsimp only at hrem ⊢; omega)]
        refine ⟨fun ho hi => if_pos ⟨deniesOwnStops_iff.mpr hi, ho, hg⟩, fun hn => ?_⟩
        rw [if_neg fun hc => hn ⟨hc.2.1, deniesOwnStops_iff.mp hc.1⟩, hg]

end Sys2Proof.Machine
end

section
/-! PROOFS, station modes and beacons (chapters 5 and 8): the NIGHT level, the night signal, the end of LISTEN_IN, and the
beacon timer. -/

namespace Sys2Proof.Machine

/-! ### The night signal and the end of LISTEN_IN (R142, R145, R146) -/

theorem nightLevel_iff (s : State) : s.mode.nightLevel.getD false = true ↔ s.mode.nightLevel = some true := by
  cases s.mode.nightLevel <;> simp

theorem peerNight_iff (s : State) : s.peerNight = true ↔
    ∃ e ∈ s.peers.entries, e.freshness = .fresh ∧ e.planState = .matched ∧ e.night = true := by
  simp only [State.peerNight, List.any_eq_true, Bool.and_eq_true, beq_iff_eq, and_assoc]

theorem anyHeld_iff (s : State) : s.anyHeld = true ↔ ∃ i : LpId, s.inUse i = true ∧
    (s.chans[i].state = .stopRequested ∨ s.chans[i].state = .coasting ∨ s.chans[i].state = .stopped ∨
      s.chans[i].state = .startPending ∨ s.chans[i].state = .starting) := by
  have hholds (st : LpState) : st.holdsWake = true ↔
      st = .stopRequested ∨ st = .coasting ∨ st = .stopped ∨ st = .startPending ∨ st = .starting := by
    cases st <;> decide
  simp only [State.anyHeld, List.any_eq_true, mem_lpIds, true_and, Bool.and_eq_true, hholds]

/-- The station once LISTEN_IN has ended, before the plant mode is decided. -/
def State.activated (s : State) : State := s.withMode { s.mode with station := some .active, listenIn := .off }

theorem exec_listenInEnds {s : State} (hl : s.listening = true) (hr : s.mode.listenIn.isRunning = true) :
    exec .listenInTimerExpiry s = .next (endListening s) :=
  congrArg Host.Outcome.next (if_pos (Bool.and_eq_true_iff.mpr ⟨hl, hr⟩))

theorem nightSignal_activated {s : State} (h : s.mode.station = some .listenIn) :
    s.activated.nightSignal = s.nightSignal := by
  have hs : s.nightSignal = (s.mode.nightLevel.getD false || (s.station.followPlantNight == 1 && s.peerNight)) := by
    rw [State.nightSignal, h]
  exact hs.symm

/-- Settles O46. -/
theorem nightIsTakenAndDecided : Obligations.NightIsTakenAndDecided := by
  refine ⟨fun asserted s hl => ⟨fun hn => ?_, fun hn => ?_, fun he => ?_⟩, fun s => ⟨fun h => ?_, fun h => ?_, fun h => ?_⟩,
    fun s hl hr => ?_⟩
  · exact congrArg Host.Outcome.next (if_pos (by rw [hl, hn]; rfl))
  · exact congrArg Host.Outcome.next (if_pos (Bool.and_eq_true_iff.mpr ⟨hl, bne_iff_ne.mpr hn⟩))
  · exact congrArg Host.Outcome.next (if_neg fun hc => bne_iff_ne.mp (Bool.and_eq_true_iff.mp hc).2 he)
  · have hs : s.nightSignal = (s.mode.nightLevel.getD false || (s.station.followPlantNight == 1 && s.peerNight)) := by
      rcases h with h | h <;> rw [State.nightSignal, h]
    rw [hs, Bool.or_eq_true, Bool.and_eq_true, beq_iff_eq, nightLevel_iff, peerNight_iff]
  · have hs : s.nightSignal = s.mode.nightLevel.getD false := by rw [State.nightSignal, h]
    rw [hs, nightLevel_iff]
  · rw [State.nightSignal, h]
  · refine (exec_listenInEnds (beq_iff_eq.mpr hl) hr).trans (congrArg Host.Outcome.next (congrArg settle ?_))
    refine congrArg (fun m => enterMode m s.activated) ?_
    exact if_congr (iff_of_eq (congrArg (· = true) (nightSignal_activated hl))) rfl (if_congr (anyHeld_iff s.activated) rfl rfl)

/-! ### The beacon timer (R85, R88, R90) -/

/-- A beacon has been handed, and nothing is said of one that it replaced. -/
def State.beaconHanded (s : State) (firstOfListenIn : Bool) : State :=
  (s.withLink { s.link with waitBeacon := some (s.beaconFrame firstOfListenIn) }.takeNext).withMode
    { s.mode with seq := s.mode.seq + 1 }

theorem handBeacon_plain {s : State} (first : Bool) (h : ∀ w, s.link.waitBeacon = some w → w.origin ≠ .beacon true) :
    handBeacon first s = s.beaconHanded first := by
  unfold handBeacon
  dsimp only
  split
  case h_1 triggers frame hw =>
    cases triggers with
    | false => rfl
    | true => exact absurd rfl (h _ hw)
  case h_2 => rfl

theorem handBeacon_trigger {s : State} (first : Bool) {w : OutFrame} (h : s.link.waitBeacon = some w)
    (ho : w.origin = .beacon true) : handBeacon first s = announce (s.beaconHanded first) := by
  obtain ⟨origin, frame⟩ := w
  obtain rfl : origin = .beacon true := ho
  unfold handBeacon
  rw [h]
  rfl

theorem handBeacon_frame {s : State} (first : Bool) (hb : s.beaconing = true) :
    handBeacon first s = (s.withLink (handBeacon first s).link).withMode (handBeacon first s).mode := by
  by_cases h : ∃ w, s.link.waitBeacon = some w ∧ w.origin = .beacon true
  · obtain ⟨w, hw, ho⟩ := h
    rw [handBeacon_trigger first hw ho, (announce_spec (s := s.beaconHanded first) hb).1]
    rfl
  · rw [handBeacon_plain first fun w hw ho => h ⟨w, hw, ho⟩]
    rfl

theorem exec_beaconTimerExpiry {s : State} (hb : s.beaconing = true) (hr : s.mode.beaconT.isRunning = true) :
    exec .beaconTimerExpiry s =
      .next (nextBeacon (if s.listening ∧ s.mode.listenIn = .running 0 then endListening s else s)) :=
  congrArg Host.Outcome.next (if_pos (Bool.and_eq_true_iff.mpr ⟨hb, hr⟩))

theorem endListening_mode (s : State) : ∃ plant, (endListening s).mode =
    { s.mode with station := some .active, listenIn := .off, plant } := by
  obtain ⟨-, -, -, -, -, -, hm, -⟩ := consequencesKeep (decideMode s.activated)
  rw [decideMode, enterMode_mode] at hm
  exact ⟨_, hm⟩

/-- Settles O47. -/
theorem beaconsAreHanded : Obligations.BeaconsAreHanded := by
  intro s hb hr
  refine ⟨fun hnot => ?_, fun hl h0 => ?_⟩
  · have hexec := (exec_beaconTimerExpiry hb hr).trans (congrArg (fun t => Host.Outcome.next (nextBeacon t)) (if_neg hnot))
    let r := s.withMode { s.mode with beaconT := startAt (seconds s.statusSecs) }
    refine ⟨handBeacon false r, r.beaconFrame false, hexec, ?_, ?_, rfl, fun hw => ?_, fun w hw ho hp => ?_⟩
    · rw [handBeacon_frame (s := r) false hb]
      rfl
    · exact congrArg Origin.beacon (Bool.eq_iff_iff.mpr (by simp [r, State.withMode]))
    · rw [handBeacon_plain (s := r) false hw]
      exact ⟨rfl, rfl⟩
    · obtain ⟨p, hp⟩ := Option.ne_none_iff_exists'.mp hp
      obtain ⟨-, hhanded, hnot⟩ := announce_spec (s := r.beaconHanded false) hb
      have hlink : (r.beaconHanded false).link = { s.link with waitBeacon := some (r.beaconFrame false) } :=
        takeNext_of_inProgress _ hp
      rw [hlink] at hhanded hnot
      rw [handBeacon_trigger (s := r) false hw ho]
      refine ⟨fun hu => ?_, fun hu => hnot hu⟩
      obtain ⟨hmode, htaken⟩ := hhanded hu
      exact ⟨hmode, htaken.trans (takeNext_of_inProgress _ hp)⟩
  · obtain ⟨plant, hm⟩ := endListening_mode s
    refine ⟨endListening s, exec_listenInEnds hl (by rw [h0]; rfl), ?_, ?_, by rw [hm]⟩
    · rw [State.isActive, hm]
      rfl
    · have hexec := (exec_beaconTimerExpiry hb hr).trans
        (congrArg (fun t => Host.Outcome.next (nextBeacon t)) (if_pos ⟨hl, h0⟩))
      generalize endListening s = t at *
      have ht : t.beaconing = true := by rw [State.beaconing, State.isActive, hm]; exact Bool.or_true _
      have hnot : ¬(t.listening = true ∧ t.mode.listenIn = .running 0) := fun hc => by
        rw [hm] at hc
        exact nomatch hc.2
      refine hexec.trans ((exec_beaconTimerExpiry ht (by rw [hm]; exact hr)).trans ?_).symm
      exact congrArg (fun t => Host.Outcome.next (nextBeacon t)) (if_neg hnot)

end Sys2Proof.Machine
end

section
/-! PROOFS, the service tool's requests (chapter 10): replies, requests that are only counted, refusals, and the accepted
directives. -/

namespace Sys2Proof.Machine

/-! ### Taking a request (R79, R165) -/

/-- The state in which a request acts: its frame has left the line and is counted. -/
abbrev State.taken (s : State) : State := accept (frameEnd s)

theorem toolFrame_silent {s : State} (k : State → State) (hr : s.receiving = true)
    (h : s.station.address = none ∨ s.inConflict = true) : toolFrame k s = s.taken := by
  have hc : (s.taken.station.address.isSome && !s.taken.inConflict) = false := by
    rcases h with h | h
    · rw [show s.taken.station = s.station from rfl, h]
      rfl
    · rw [show s.taken.inConflict = s.inConflict from rfl, h, Bool.not_true, Bool.and_false]
  exact (if_pos hr).trans (if_neg (Bool.eq_false_iff.mp hc))

section
variable {s : State} (hr : s.receiving = true) (ha : s.station.address.isSome = true) (hc : s.inConflict = false)
include hr ha hc

theorem toolFrame_acts (k : State → State) : toolFrame k s = k s.taken :=
  (if_pos hr).trans (if_pos (Bool.and_eq_true_iff.mpr ⟨ha, congrArg not hc⟩))

theorem directive_acts (code seq : Byte) (k : State → State) (hp : s.mode.station ≠ some .passive) :
    directive code seq k s = k s.taken := (toolFrame_acts hr ha hc _).trans (if_neg hp)

theorem directive_passive (code seq : Byte) (k : State → State) (hp : s.mode.station = some .passive) :
    directive code seq k s = handReply seq [9, code, 3, 8, 0] s.taken := (toolFrame_acts hr ha hc _).trans (if_pos hp)

end

/-- A request other than RESTART at a station that has no address, or is in ADDRESS_CONFLICT, is only counted. -/
theorem exec_request_silent {s : State} (hr : s.receiving = true)
    (h : s.station.address = none ∨ s.inConflict = true) {c : Instr} (hc : isRequest c = true) :
    exec c s = .next s.taken := by
  have hk (k : State → State) := congrArg (Host.Outcome.next (φ := Fault) (ρ := Refusal))
    (toolFrame_silent k hr h)
  cases c
  case inquiryStationStatus => exact hk _
  case inquiryLpRuntime => exact hk _
  case inquiryPeerTable => exact hk _
  case inquiryLastRound => exact hk _
  case inquiryFaultRecords => exact hk _
  case inquiryCounters => exact hk _
  case inquiryConfigurationEcho => exact hk _
  case badTable => exact hk _
  case clearFault => exact hk _
  case clearLockout => exact hk _
  case excludeLps => exact hk _
  case includeLps => exact hk _
  case forgetPeer => exact hk _
  case clearAlerts => exact hk _
  case badDirective => exact hk _
  all_goals cases hc

/-! ### Masks (R169) -/

theorem maskBit_foldl (j : LpId) : ∀ (is : List LpId) (m : Byte),
    maskBit (is.foldl (fun m i => m ||| ((1 : Byte) <<< i.val)) m) j = (maskBit m j || decide (j ∈ is))
  | [], m => by simp
  | i :: is, m => by
    have hbit : ∀ i j : LpId, maskBit ((1 : Byte) <<< i.val) j = decide (j = i) := by decide
    have hor : maskBit (m ||| ((1 : Byte) <<< i.val)) j = (maskBit m j || maskBit ((1 : Byte) <<< i.val) j) :=
      BitVec.getLsbD_or
    rw [List.foldl_cons, maskBit_foldl j is, hor, hbit, Bool.or_assoc]
    simp only [List.mem_cons, Bool.decide_or]

theorem maskBit_maskOf (is : List LpId) (j : LpId) : maskBit (maskOf is) j = decide (j ∈ is) := by
  have h0 : maskBit 0 j = false := BitVec.getLsbD_zero
  rw [maskOf, maskBit_foldl, h0, Bool.false_or]

theorem maskBit_causing (s : State) (m : Byte) (p : Chan → Bool) (j : LpId) :
    maskBit (maskOf (s.causing m p)) j = (s.inUse j && maskBit m j && p s.chans[j]) := by
  rw [maskBit_maskOf, Bool.eq_iff_iff]
  simp only [State.causing, List.mem_filter, mem_named, decide_eq_true_eq, Bool.and_eq_true]

/-- A named load point that makes a directive refused is found. -/
theorem causing_found {s : State} {m : Byte} {p : Chan → Bool} {i : LpId} (hu : s.inUse i = true)
    (hm : maskBit m i = true) (hp : p s.chans[i] = true) : ¬(s.causing m p).isEmpty = true := fun h => by
  rw [causing_isEmpty.mp h i hu hm] at hp
  cases hp

/-! ### Refusals (R165, R166, R169, section 11.3) -/

theorem ofCode_none {code : Byte} (h : isToolCode code = false) : Table.ofCode code = none := by
  simp only [isToolCode, Bool.and_eq_false_iff, decide_eq_false_iff_not] at h
  unfold Table.ofCode
  split
  case h_8 => rfl
  all_goals omega

/-- Settles O52. -/
theorem repliesAndRefusals : Obligations.RepliesAndRefusals := by
  refine ⟨fun seq payload s a ha hc => ?_, fun c seq s hr => ⟨fun hreq h => exec_request_silent hr h hreq, fun h => ?_⟩,
    fun seq s hr ha hc => ?_⟩
  · have hown : s.ownAddress = a := by rw [State.ownAddress, ha]; rfl
    rw [handReply_of_address (ha ▸ rfl) hc]
    refine ⟨s.replyFrame seq payload, rfl, by rw [← hown]; rfl, rfl, fun hp => ?_, fun hp hl hi => ?_⟩
    · obtain ⟨p, hp⟩ := Option.ne_none_iff_exists'.mp hp
      exact takeNext_of_inProgress _ hp
    · exact congrArg (fun l : Link => l.inProgress.map Sending.out)
        (takeNext_reply (l := { s.link with waitReply := some (s.replyFrame seq payload) }) hp hl hi rfl)
  · exact congrArg Host.Outcome.next ((if_pos hr).trans (if_pos (by rw [show (accept (frameEnd s)).station.address = none from h]; rfl)))
  · intro b
    have hinq (k : State → State) := congrArg (Host.Outcome.next (φ := Fault) (ρ := Refusal))
      (toolFrame_acts hr ha hc k)
    have hdir (hp : s.mode.station ≠ some .passive) (code : Byte) (k : State → State) :=
      congrArg (Host.Outcome.next (φ := Fault) (ρ := Refusal)) (directive_acts hr ha hc code seq k hp)
    have hpas (hp : s.mode.station = some .passive) (code : Byte) (k : State → State) :=
      congrArg (Host.Outcome.next (φ := Fault) (ρ := Refusal)) (directive_passive hr ha hc code seq k hp)
    refine ⟨fun table start count ht => ?_, fun hp code arg _ => hdir hp code _, fun hp a hst => ?_,
      fun hp a hst hf => ?_, fun hp m hm => ?_, fun hp m i hu hm hl => ?_, fun hp m i hu hm hst => ?_,
      fun hp m station classes a code arg _ => ⟨hpas hp _ _, hpas hp _ _, hpas hp _ _, hpas hp _ _, hpas hp _ _,
        hpas hp _ _, hpas hp _ _⟩⟩
    · refine (hinq _).trans (congrArg Host.Outcome.next ?_)
      rw [inquire, ofCode_none ht]
      rfl
    · exact (hdir hp 5 _).trans (congrArg Host.Outcome.next (if_pos (congrArg not hst)))
    · refine (hdir hp 5 _).trans (congrArg Host.Outcome.next ((if_neg ?_).trans (if_pos ?_)))
      · rw [hst]
        exact Bool.false_ne_true
      · rw [show (accept (frameEnd s)).peers = s.peers from rfl, hf]
        rfl
    · exact (hdir hp 6 _).trans (congrArg Host.Outcome.next (if_pos hm))
    · have hfound : ¬(s.taken.causing m fun c => c.lockout == .hard).isEmpty = true :=
        causing_found (p := fun c => c.lockout == .hard) hu hm (beq_iff_eq.mpr hl)
      exact ⟨maskOf (s.taken.causing m fun c => c.lockout == .hard),
        (hdir hp 2 _).trans (congrArg Host.Outcome.next (if_neg hfound)),
        maskBit_causing s.taken m fun c => c.lockout == .hard⟩
    · have hfound : ¬(s.taken.causing m fun c => c.state == .manual).isEmpty = true :=
        causing_found (p := fun c => c.state == .manual) hu hm (beq_iff_eq.mpr hst)
      exact ⟨maskOf (s.taken.causing m fun c => c.state == .manual),
        (hdir hp 3 _).trans (congrArg Host.Outcome.next (if_neg hfound)),
        maskBit_causing s.taken m fun c => c.state == .manual⟩

end Sys2Proof.Machine
end

section
/-! PROOFS, the accepted directives (R57, R58, R101, R158, R162). -/

namespace Sys2Proof.Machine

/-! ### Load points acted on by a mask -/

/-- Named load points have been acted on: those that move are left as `after` says, with their entries withdrawn; the
units, the surplus records and the entries of the others are kept. -/
def Acted (b u : State) (moves : LpId → Prop) (after : LpId → State) : Prop :=
  u = ((((b.withRound { b.round with queue := u.round.queue }).withChans u.chans).withUnits u.units).withProvs
    u.provs) ∧
  (∀ q, q ∈ u.round.queue ↔ q ∈ b.round.queue ∧ ¬moves q.entry.lp) ∧ u.round.queue.Sublist b.round.queue ∧
  ∀ i : LpId,
    (moves i → u.chans[i] = (after i).chans[i] ∧ u.units[i] = (after i).units[i] ∧
      u.provs[i] = (after i).provs[i]) ∧
    (¬moves i → u.units[i] = b.units[i] ∧ u.provs[i] = b.provs[i])

/-- The named load points answer one after another, each by what it finds itself. -/
theorem acted_of_ownAnswer {g : State → LpId → State} {moves : State → LpId → Prop} [∀ s i, Decidable (moves s i)]
    (h : OwnAnswer g fun s i q => if moves s i then none else some q) (b : State) (m : Byte) (after : LpId → State)
    (hafter : ∀ i, moves b i → (g b i).parts i = (after i).parts i)
    (hstay : ∀ i, ¬moves b i → (g b i).units[i] = b.units[i] ∧ (g b i).provs[i] = b.provs[i]) :
    Acted b ((b.named m).foldl g b) (fun i => (b.inUse i = true ∧ maskBit m i = true) ∧ moves b i) after ∧
    ∀ i, ((b.named m).foldl g b).chans[i] =
      if b.inUse i = true ∧ maskBit m i = true then (g b i).chans[i] else b.chans[i] := by
  obtain ⟨hframe, hparts⟩ := h.walk (b.named m) (lpIds_nodup.filter _) b
  generalize (b.named m).foldl g b = u at *
  have hwalked : u.round.queue = _ := congrArg (fun x : State => x.round.queue) hframe
  have hq : u.round.queue = b.round.queue.filter fun q =>
      ¬((b.inUse q.entry.lp = true ∧ maskBit m q.entry.lp = true) ∧ moves b q.entry.lp) := by
    rw [← filterMap_if_none]
    refine hwalked.trans ?_
    refine congrArg (List.filterMap · b.round.queue) (funext fun q => ?_)
    simp only [walkedQueue, mem_named]
    by_cases hn : b.inUse q.entry.lp = true ∧ maskBit m q.entry.lp = true
    · simp only [hn, and_self, true_and, if_true]
    · simp only [hn, false_and, if_false]
  have hin (i : LpId) (hn : b.inUse i = true ∧ maskBit m i = true) : u.parts i = (g b i).parts i :=
    (hparts i).trans (if_pos (mem_named.mpr hn))
  have hout (i : LpId) (hn : ¬(b.inUse i = true ∧ maskBit m i = true)) : u.parts i = b.parts i :=
    (hparts i).trans (if_neg (mt mem_named.mp hn))
  refine ⟨⟨?_, fun q => ?_, hq ▸ List.filter_sublist, fun i => ⟨fun hm => ?_, fun hm => ?_⟩⟩, fun i => ?_⟩
  · rw [hwalked]
    exact hframe
  · rw [hq, List.mem_filter, decide_eq_true_eq]
  · exact parts_eq_iff.mp ((hin i hm.1).trans (hafter i hm.2))
  · by_cases hn : b.inUse i = true ∧ maskBit m i = true
    · obtain ⟨hu, hp⟩ := hstay i fun hc => hm ⟨hn, hc⟩
      obtain ⟨-, hu', hp'⟩ := parts_eq_iff.mp (hin i hn)
      exact ⟨hu'.trans hu, hp'.trans hp⟩
    · exact (parts_eq_iff.mp (hout i hn)).2
  · split
    · exact (parts_eq_iff.mp (hin i ‹_›)).1
    · exact (parts_eq_iff.mp (hout i ‹_›)).1

/-- The record of a channel whose lockout is cleared. -/
def State.unlocked (s : State) (i : LpId) : Chan := { s.chans[i] with lockout := .none }

theorem clearSoft_eq (s : State) (i : LpId) : clearSoft s i =
    if s.chans[i].lockout = .soft then
      (if s.chans[i].state = .lockout then enter i .running (s.setChan i (s.unlocked i))
        else s.setChan i (s.unlocked i))
    else s := by
  unfold clearSoft
  dsimp only
  rw [setChan_chans_self]
  rfl

theorem ownAnswer_clearSoft : OwnAnswer clearSoft fun s i q =>
    if s.chans[i].lockout = .soft ∧ s.chans[i].state = .lockout then none else some q := by
  have hg : clearSoft = fun s i => if s.chans[i].lockout = .soft then
      (if s.chans[i].state = .lockout then enter i .running (s.setChan i (s.unlocked i))
        else s.setChan i (s.unlocked i))
    else s := funext fun s => funext fun i => clearSoft_eq s i
  rw [hg]
  have hunlock : OwnAnswer (fun s i => s.setChan i (s.unlocked i)) fun _ _ => some :=
    OwnAnswer.setChan State.unlocked fun h => by rw [State.unlocked, h.chan_eq]; rfl
  refine OwnAnswer.congr (OwnAnswer.ite
    (OwnAnswer.ite (OwnAnswer.comp hunlock (OwnAnswer.enter none (fun _ _ => .running) fun _ => rfl)) hunlock
      (fun s i => s.chans[i].state = .lockout) fun h => by rw [h.chan_eq])
    OwnAnswer.none (fun s i => s.chans[i].lockout = .soft) fun h => by rw [h.chan_eq]) fun s i q => ?_
  by_cases hs : s.chans[i].lockout = .soft <;> by_cases hl : s.chans[i].state = .lockout
  · rw [if_pos hs, if_pos hl, if_pos ⟨hs, hl⟩]
    rfl
  · rw [if_pos hs, if_neg hl, if_neg fun h => hl h.2]
  all_goals rw [if_neg hs, if_neg fun h => hs h.1]

theorem ownAnswer_exclude : OwnAnswer excludeLp fun s i q =>
    if s.chans[i].state ≠ .lockout ∧ s.chans[i].state ≠ .excluded then none else some q := by
  refine OwnAnswer.congr (OwnAnswer.ite OwnAnswer.none (OwnAnswer.enter none (fun _ _ => .excluded) fun _ => rfl)
    (fun s i => s.chans[i].state = .lockout ∨ s.chans[i].state = .excluded) fun h => by rw [h.chan_eq])
    fun s i q => ?_
  by_cases hc : s.chans[i].state = .lockout ∨ s.chans[i].state = .excluded
  · rw [if_pos hc, if_neg fun h => hc.elim h.1 h.2]
  · rw [if_neg hc, if_pos (not_or.mp hc)]

theorem ownAnswer_include : OwnAnswer includeLp fun s i q =>
    if s.chans[i].state = .excluded then none else some q := by
  refine OwnAnswer.congr (OwnAnswer.ite (OwnAnswer.enter none (fun _ _ => .running) fun _ => rfl) OwnAnswer.none
    (fun s i => s.chans[i].state = .excluded) fun h => by rw [h.chan_eq]) fun s i q => ?_
  split <;> rfl

/-- Whether a load point in use is named by the mask. -/
abbrev State.Names (s : State) (m : Byte) (i : LpId) : Prop := s.inUse i = true ∧ maskBit m i = true

theorem clearSoft_acted (b : State) (m : Byte) :
    Acted b ((b.named m).foldl clearSoft b)
      (fun i => b.Names m i ∧ b.chans[i].lockout = .soft ∧ b.chans[i].state = .lockout)
      (fun i => enter i .running (b.setChan i (b.unlocked i))) ∧
    ∀ i, (b.Names m i → b.chans[i].lockout = .soft → b.chans[i].state ≠ .lockout →
        ((b.named m).foldl clearSoft b).chans[i] = b.unlocked i) ∧
      (¬b.Names m i ∨ b.chans[i].lockout ≠ .soft → ((b.named m).foldl clearSoft b).chans[i] = b.chans[i]) := by
  obtain ⟨hacted, hchans⟩ := acted_of_ownAnswer ownAnswer_clearSoft b m
    (fun i => enter i .running (b.setChan i (b.unlocked i)))
    (fun i hc => by rw [clearSoft_eq, if_pos hc.1, if_pos hc.2]) (fun i hc => by
      rw [clearSoft_eq]
      split
      · rw [if_neg fun hl => hc ⟨‹_›, hl⟩]
        exact ⟨rfl, rfl⟩
      · exact ⟨rfl, rfl⟩)
  refine ⟨hacted, fun i => ⟨fun hn hs hl => ?_, fun hn => ?_⟩⟩
  · rw [hchans, if_pos hn, clearSoft_eq, if_pos hs, if_neg hl, setChan_chans_self]
  · rw [hchans]
    split
    · rw [clearSoft_eq, if_neg (hn.resolve_left (not_not_intro ‹_›))]
    · rfl

theorem exclude_acted (b : State) (m : Byte) :
    Acted b ((b.named m).foldl excludeLp b)
      (fun i => b.Names m i ∧ b.chans[i].state ≠ .lockout ∧ b.chans[i].state ≠ .excluded)
      (fun i => enter i .excluded b) ∧
    ∀ i, (b.Names m i → b.chans[i].state ≠ .lockout → ((b.named m).foldl excludeLp b).chans[i].state = .excluded) ∧
      (¬b.Names m i ∨ b.chans[i].state = .lockout ∨ b.chans[i].state = .excluded →
        ((b.named m).foldl excludeLp b).chans[i] = b.chans[i]) := by
  obtain ⟨hacted, hchans⟩ := acted_of_ownAnswer ownAnswer_exclude b m (fun i => enter i .excluded b)
    (fun i hc => by rw [excludeLp, if_neg (not_or.mpr hc)]) (fun i hc => by
      rw [excludeLp, if_pos (by_contra fun hn => hc (not_or.mp hn))]
      exact ⟨rfl, rfl⟩)
  refine ⟨hacted, fun i => ⟨fun hn hl => ?_, fun hn => ?_⟩⟩
  · rw [hchans, if_pos hn, excludeLp]
    split
    · exact (‹_ ∨ _›).resolve_left hl
    · rw [enter, enterFor_chan_eq]
      rfl
  · rw [hchans]
    split
    · rw [excludeLp, if_pos (hn.resolve_left (not_not_intro ‹_›))]
    · rfl

theorem include_acted (b : State) (m : Byte) :
    Acted b ((b.named m).foldl includeLp b) (fun i => b.Names m i ∧ b.chans[i].state = .excluded)
      (fun i => enter i .running b) ∧
    ∀ i, ¬b.Names m i ∨ b.chans[i].state ≠ .excluded → ((b.named m).foldl includeLp b).chans[i] = b.chans[i] := by
  obtain ⟨hacted, hchans⟩ := acted_of_ownAnswer ownAnswer_include b m (fun i => enter i .running b)
    (fun i hc => by rw [includeLp, if_pos hc]) (fun i hc => by
      rw [includeLp, if_neg hc]
      exact ⟨rfl, rfl⟩)
  refine ⟨hacted, fun i hn => ?_⟩
  rw [hchans]
  split
  · rw [includeLp, if_neg (hn.resolve_left (not_not_intro ‹_›))]
  · rfl

/-! ### The directives -/

theorem not_conflict {s : State} (h : s.mode.station = some .listenIn ∨ s.mode.station = some .active) :
    s.inConflict = false ∧ s.mode.station ≠ some .passive := by
  rw [State.inConflict]
  rcases h with h | h <;> rw [h] <;> exact ⟨rfl, nofun⟩

/-- A directive taken in LISTEN_IN or ACTIVE. -/
theorem exec_directive {s : State} (hr : s.receiving = true) (ha : s.station.address.isSome = true)
    (h : s.mode.station = some .listenIn ∨ s.mode.station = some .active) (code seq : Byte) (k : State → State) :
    Host.Outcome.next (φ := Fault) (ρ := Refusal) (directive code seq k s) = .next (k s.taken) :=
  congrArg _ (directive_acts hr ha (not_conflict h).1 code seq k (not_conflict h).2)

theorem clearFlags_flagSet (m : Half) (s : State) (e : EventClass) :
    (clearFlags m s).flagSet e = (s.flagSet e && !m.getLsbD e.index.val) := by
  have hk : e.index.val < 9 := e.index.isLt
  have hf : (clearFlags m s).flagSet e = (s.faults.flags &&& ~~~(m.setWidth 9)).getLsbD e.index.val := rfl
  rw [hf, BitVec.getLsbD_and, BitVec.getLsbD_not, BitVec.getLsbD_setWidth]
  simp only [hk, decide_true, Bool.true_and]
  rfl

/-- Settles O54. -/
theorem acceptedDirectives : Obligations.AcceptedDirectives := by
  refine ⟨fun seq s hr ha hm => ?_, fun seq m s hr ha hm => ?_⟩
  · intro b
    refine ⟨fun m station => ⟨clearFaults m station b, exec_directive hr ha hm 1 seq _, rfl, rfl, rfl, rfl, fun i => ?_⟩,
      fun m hlt => ⟨clearFlags m b, (exec_directive hr ha hm 6 seq _).trans ?_, rfl, fun e => clearFlags_flagSet m b e⟩,
      fun a hst hf => ?_⟩
    · exact (clearFaults_lps m station b i).trans (if_congr Bool.and_eq_true_iff rfl rfl)
    · exact congrArg Host.Outcome.next (if_neg (Nat.not_le.mpr hlt))
    · have hknown : ¬(findEntry a s.peers.entries).isNone = true := by
        rw [Option.isNone_iff_eq_none, ← Option.not_isSome_iff_eq_none, hf]
        exact fun h => h rfl
      have hbad : ¬(!isStation a) = true := by
        rw [hst]
        exact Bool.false_ne_true
      refine ⟨_, (exec_directive hr ha hm 5 seq _).trans (congrArg Host.Outcome.next
        ((if_neg hbad).trans (if_neg hknown))), ?_⟩
      by_cases hempty : dropEntry a s.peers.entries = []
      · rw [if_pos (by exact List.isEmpty_iff.mpr hempty)]
        exact ⟨rfl, (if_pos hempty).symm, rfl⟩
      · rw [if_neg (by exact mt List.isEmpty_iff.mp hempty)]
        exact ⟨rfl, (if_neg hempty).symm, rfl⟩
  · intro b acted named unlocked
    refine ⟨fun hno => ?_, fun hno => ?_, ?_⟩
    · have hclear : (b.causing m fun c => c.lockout == .hard).isEmpty = true :=
        causing_isEmpty.mpr fun i hu hm => beq_eq_false_iff_ne.mpr (hno i hu hm)
      exact ⟨_, (exec_directive hr ha hm 2 seq _).trans (congrArg Host.Outcome.next (if_pos hclear)),
        clearSoft_acted b m⟩
    · have hclear : (b.causing m fun c => c.state == .manual).isEmpty = true :=
        causing_isEmpty.mpr fun i hu hm => beq_eq_false_iff_ne.mpr (hno i hu hm)
      obtain ⟨hacted, hchans⟩ := exclude_acted b m
      refine ⟨_, (exec_directive hr ha hm 3 seq _).trans (congrArg Host.Outcome.next (if_pos hclear)), hacted, fun i =>
        ⟨fun hn hl => ?_, (hchans i).2⟩⟩
      have hst := (hchans i).1 hn hl
      exact ⟨hst, congrArg LpState.stopAsserted hst⟩
    · exact ⟨_, exec_directive hr ha hm 4 seq _, include_acted b m⟩

end Sys2Proof.Machine
end

section
/-! PROOFS, RESTART (R16, R35, R66, R84, R152, R170): the channels restored, the consequences that follow, and LISTEN_IN. -/

namespace Sys2Proof.Machine

/-! ### The restored channels (R35, R66) -/

/-- The state a channel is restored to, by what it finds. -/
def State.restoresTo (s : State) (i : LpId) : LpState := restoredState (s.handPresent i) s.chans[i]

theorem restoresTo_eq (s : State) (i : LpId) : s.restoresTo i = match s.chans[i].state with
    | .running | .idleWatch | .stopPending => .running
    | .startPending => .stopped
    | .manual => if s.handPresent i then .manual else if s.chans[i].lockout = .none then .running else .lockout
    | st => st := by
  unfold State.restoresTo restoredState afterHand
  cases s.chans[i].state <;> rfl

/-- No channel is restored to a state in which it waits for a round, or watches its idle timer. -/
theorem restoresTo_ne (s : State) (i : LpId) : s.restoresTo i ≠ .startPending ∧ s.restoresTo i ≠ .stopPending ∧
    s.restoresTo i ≠ .idleWatch := by
  rw [restoresTo_eq]
  cases s.chans[i].state
  case manual => dsimp only; split <;> [skip; split] <;> exact ⟨nofun, nofun, nofun⟩
  all_goals exact ⟨nofun, nofun, nofun⟩

theorem restoreChan_inUse {s : State} {i : LpId} (h : s.inUse i = true) : restoreChan s i =
    (enter i (s.restoresTo i) s).setChan i { (enter i (s.restoresTo i) s).chans[i] with
      watch := freshWatch s.chans[i].lockout s.lines[i].stoprb (s.restoresTo i).stopAsserted } := by
  have hl : (enter i (s.restoresTo i) s).chans[i].lockout = s.chans[i].lockout := by rw [enter, enterFor_chan_eq]
  have hs : (enter i (s.restoresTo i) s).chans[i].state = s.restoresTo i := by
    rw [enter, enterFor_chan_eq]
    rfl
  refine (if_pos h).trans (congrArg (fun w => (enter i (s.restoresTo i) s).setChan i
    { (enter i (s.restoresTo i) s).chans[i] with watch := w }) ?_)
  exact congrArg₂ (fun l st => freshWatch l s.lines[i].stoprb (LpState.stopAsserted st)) hl hs

/-- A restored channel: its timers start from full, and its watch begins afresh. -/
theorem restoreChan_chan {s : State} {i : LpId} (h : s.inUse i = true) : (restoreChan s i).chans[i] =
    { Chan.powerOn (s.restoresTo i) s.chans[i].retry with
      recalls := s.chans[i].recalls
      autoOff := s.chans[i].autoOff
      lockout := s.chans[i].lockout
      stopT := if s.restoresTo i = .stopRequested then .running ((if (s.block i).control = 0 then
        (s.block i).grantTimeout.toNat else (s.block i).feedbackTimeout.toNat) * 1000000) else .off
      coastT := if s.restoresTo i = .coasting then .running ((s.block i).coastLimit.toNat * 1000000) else .off
      settleT := if s.restoresTo i = .starting ∧ s.runPresent i = true then
        .running ((s.block i).startSettle.toNat * 1000000) else .off
      startT := if s.restoresTo i = .starting ∧ s.runPresent i = false then
        .running ((s.block i).startTimeout.toNat * 1000000) else .off
      watch := if s.chans[i].lockout = .hard ∨ s.lines[i].stoprb = none ∨
        s.lines[i].stoprb = some (s.restoresTo i).stopAsserted then .off else .running 200000 } := by
  obtain ⟨hp, hst, -⟩ := restoresTo_ne s i
  rw [restoreChan_inUse h, setChan_chans_self, enter, enterFor_chan_eq, freshWatch_eq]
  simp only [hp, hst, false_and, if_false, decide_false]
  rfl

/-- What a channel is restored to rests on its own record, the configuration and the lines. -/
theorem restoreChan_chan_congr {s t : State} {i : LpId} (hc : t.config = s.config) (hl : t.lines = s.lines)
    (hch : t.chans[i] = s.chans[i]) (h : s.inUse i = true) : (restoreChan t i).chans[i] = (restoreChan s i).chans[i] := by
  have hto : t.restoresTo i = s.restoresTo i := by simp only [State.restoresTo, State.handPresent, hch, hl]
  have hrun : t.runPresent i = s.runPresent i := by simp only [State.runPresent, hl]
  rw [restoreChan_chan ((State.inUse_congr hc i).trans h), restoreChan_chan h, hto, hrun, hch, hl, State.block_congr hc]

theorem restoreChan_unit {s : State} {i : LpId} (h : s.inUse i = true) : (restoreChan s i).units[i] =
    { s.units[i] with
      armed := false, coasting := decide (s.restoresTo i = .coasting), runCount := 0 } := by
  have hn := (restoresTo_ne s i).2.2
  have hu : (restoreChan s i).units[i] = (enter i (s.restoresTo i) s).units[i] := by
    rw [restoreChan_inUse h]
    rfl
  rw [hu, enter, enterFor_units, if_pos rfl, follow_eq]
  simp [hn]

theorem restoreChan_prov {s : State} {i : LpId} (hp : s.provs[i] = ProvBalance.clear) :
    (restoreChan s i).provs[i] = ProvBalance.clear := by
  unfold restoreChan
  split
  · have he (st : LpState) : (enter i st s).provs[i] = ProvBalance.clear := by
      rw [enter, enterFor_provs, if_pos rfl, hp]
      rfl
    exact he _
  · exact hp

theorem ownAnswer_restore : OwnAnswer restoreChan fun s i q => if s.inUse i = true then none else some q := by
  refine OwnAnswer.congr (OwnAnswer.ite
    (OwnAnswer.comp (OwnAnswer.enter none State.restoresTo fun h => ?_)
      (OwnAnswer.setChan (fun t i => { t.chans[i] with
        watch := freshWatch t.chans[i].lockout t.lines[i].stoprb t.chans[i].state.stopAsserted }) fun h => ?_))
    OwnAnswer.none (fun s i => s.inUse i = true) fun h => by rw [State.inUse_congr h.1]) fun s i q => ?_
  · simp only [State.restoresTo, State.handPresent, h.chan_eq, h.2.1]
  · simp only [h.chan_eq, h.2.1]
  · split <;> rfl

/-! ### The state restored -/

/-- The station restored, as LISTEN_IN begins and before the consequences of the restored states. -/
def State.restored (s : State) : State :=
  (restoreAll (restartBlocks s)).withMode { s.mode with
    station := some .listenIn, isolated := false, listenIn := .off, beaconT := .off }

/-- The blocks as the channels' restoration finds them. -/
def State.cleared (s : State) : State := (restartBlocks s).withUnits (Vector.ofFn fun i =>
  if (restartBlocks s).inUse i then (restartBlocks s).units[i].restarted else (restartBlocks s).units[i])

theorem cleared_units (s : State) (i : LpId) :
    s.cleared.units[i] = if s.inUse i then s.units[i].restarted else s.units[i] := Vector.getElem_ofFn i.isLt

theorem cleared_provs (s : State) (i : LpId) : s.cleared.provs[i] = ProvBalance.clear :=
  Vector.getElem_replicate i.isLt

theorem cleared_chans (s : State) : s.cleared.chans = s.chans := restartBlocks_chans s
theorem cleared_config (s : State) : s.cleared.config = s.config := restartBlocks_config s

theorem restartBlocks_eq (s : State) : restartBlocks s = (((((s.withLink s.link.restarted).withPeers
      PeerTable.reset).withSvcs (Vector.replicate 12 SvcBalance.clear)).withProvs
        (Vector.replicate 8 ProvBalance.clear)).withRound { Round.reset with nextSerial := s.round.nextSerial }).withMode
        { s.mode with isolated := false, listenIn := .off, beaconT := .off } := by
  simp [restartBlocks]

theorem restartBlocks_lines (s : State) : (restartBlocks s).lines = s.lines := by simp [restartBlocks]
theorem cleared_lines (s : State) : s.cleared.lines = s.lines := restartBlocks_lines s

theorem cleared_eq (s : State) : ∃ units, s.cleared = (restartBlocks s).withUnits units := ⟨_, rfl⟩

theorem restored_spec (s : State) : ∃ chans units provs,
    s.restored = ((((((((s.withLink s.link.restarted).withPeers PeerTable.reset).withSvcs
      (Vector.replicate 12 SvcBalance.clear)).withRound { Round.reset with nextSerial := s.round.nextSerial }).withMode
        { s.mode with station := some .listenIn, isolated := false, listenIn := .off, beaconT := .off }).withChans
      chans).withUnits units).withProvs provs) ∧
    ∀ i : LpId, provs[i] = ProvBalance.clear ∧
      (s.inUse i = false → chans[i] = s.chans[i] ∧ units[i] = s.units[i]) ∧
      (s.inUse i = true → chans[i] = (restoreChan s i).chans[i] ∧ units[i] = { ActUnit.cleared with
        loaded := s.units[i].loaded, coasting := decide (s.restoresTo i = .coasting) }) := by
  obtain ⟨hframe, hparts⟩ := ownAnswer_restore.walkAll s.cleared
  have hr : s.restored = (lpIds.foldl restoreChan s.cleared).withMode { s.mode with
    station := some .listenIn, isolated := false, listenIn := .off, beaconT := .off } := rfl
  generalize lpIds.foldl restoreChan s.cleared = u at *
  refine ⟨u.chans, u.units, u.provs, ?_, fun i => ?_⟩
  · obtain ⟨units, hunits⟩ := cleared_eq s
    rw [hr, hframe, hunits, restartBlocks_eq]
    rfl
  · obtain ⟨hc, hu, hp⟩ := parts_eq_iff.mp (hparts i)
    have hin : s.cleared.inUse i = s.inUse i := State.inUse_congr (cleared_config s) i
    have hch : s.cleared.chans[i] = s.chans[i] := by rw [cleared_chans]
    have hto : s.cleared.restoresTo i = s.restoresTo i := by
      simp only [State.restoresTo, State.handPresent, hch, cleared_lines]
    rw [hc, hu, hp]
    refine ⟨restoreChan_prov (cleared_provs s i), fun hn => ?_, fun hy => ?_⟩
    · have hno : restoreChan s.cleared i = s.cleared := if_neg (Bool.eq_false_iff.mp (hin.trans hn))
      rw [hno, cleared_units, if_neg (Bool.eq_false_iff.mp hn)]
      exact ⟨hch, rfl⟩
    · refine ⟨restoreChan_chan_congr (cleared_config s) (cleared_lines s) hch hy, ?_⟩
      rw [restoreChan_unit (hin.trans hy), cleared_units, if_pos hy, hto]
      rfl

/-! ### The consequences of a restart -/

/-- A state in which no consequence reaches beyond the channels, their units and the shortfall records: LISTEN_IN, no
start pending, nothing of a surplus assessed, and nothing queued. -/
structure State.Waits (s : State) : Prop where
  listening : s.mode.station = some .listenIn
  channels : ∀ i : LpId, s.chans[i].state ≠ .startPending ∧ s.chans[i].surplusHeld = false
  provs : ∀ i : LpId, s.provs[i] = ProvBalance.clear
  queue : s.round.queue = []

/-- What stays as it is while such a state settles. -/
def State.SameBlocks (s t : State) : Prop := t.mode = s.mode ∧ t.link = s.link ∧ t.round = s.round

theorem State.Waits.not_deciding {s : State} (h : s.Waits) : s.deciding = false := by
  simp [State.deciding, State.isActive, State.inConflict, h.listening]

theorem State.Waits.enterFor {s : State} (h : s.Waits) (cause : Option StartCause) (i : LpId) {st : LpState}
    (hst : st ≠ .startPending) : (enterFor cause i st s).Waits ∧ s.SameBlocks (enterFor cause i st s) := by
  have hround : (Machine.enterFor cause i st s).round = s.round := by
    rw [enterFor_round, h.queue, dropQueued, List.filter_nil, ← h.queue]
  refine ⟨⟨h.listening, fun j => ?_, fun j => ?_, hround ▸ h.queue⟩, rfl, rfl, hround⟩
  · by_cases hj : j = i
    · subst hj
      rw [enterFor_chan_eq]
      exact ⟨hst, rfl⟩
    · rw [(enterFor_of_ne cause st s hj).1]
      exact h.channels j
  · by_cases hj : j = i
    · subst hj
      rw [enterFor_provs, if_pos rfl, h.provs]
      rfl
    · rw [(enterFor_of_ne cause st s hj).2.2]
      exact h.provs j

theorem State.Waits.setChan {s : State} (h : s.Waits) (i : LpId) {c : Chan} (hst : c.state ≠ .startPending)
    (hs : c.surplusHeld = false) : (s.setChan i c).Waits := by
  refine ⟨h.listening, fun j => ?_, h.provs, h.queue⟩
  rw [setChan_chans]
  split
  · exact ⟨hst, hs⟩
  · exact h.channels j

theorem State.Waits.fire {s : State} (h : s.Waits) {d : Due} (hg : d.Guard s) :
    (fire s d).Waits ∧ s.SameBlocks (fire s d) := by
  cases d with
  | takeBack i =>
    obtain ⟨hw, hm, hl, hr⟩ := h.enterFor none i (st := .running) nofun
    obtain ⟨hst, hs⟩ := hw.channels i
    obtain ⟨h1, h2, h3, h4⟩ := hw.setChan i (c := { (enter i .running s).chans[i] with
      recalls := satSucc 255 (enter i .running s).chans[i].recalls }) hst hs
    exact ⟨⟨h1, h2, h3, h4⟩, hm, hl, hr⟩
  | confirm i =>
    refine h.enterFor none i ?_
    split <;> nofun
  | release i st =>
    refine h.enterFor none i ?_
    have hr := hg.2
    generalize s.chans[i].state = x at hr
    rintro rfl
    cases x <;> cases hr
  | call i cause => obtain ⟨l, -, hl, -⟩ := hg; exact absurd hl (h.channels l).1
  | callOut i => obtain ⟨l, -, hl, -⟩ := hg; exact absurd hl (h.channels l).1
  | runOnStop i => exact h.enterFor none i nofun
  | shortBegins v => exact ⟨⟨h.listening, h.channels, h.provs, h.queue⟩, rfl, rfl, rfl⟩
  | shortCeases v => exact ⟨⟨h.listening, h.channels, h.provs, h.queue⟩, rfl, rfl, rfl⟩
  | shortForce v on =>
    have hoff : on = false := by
      rw [hg.2.2.2.1, State.nightWork, h.not_deciding, Bool.false_and, Bool.and_false]
    subst hoff
    exact ⟨⟨h.listening, h.channels, h.provs, h.queue⟩, rfl, rfl, rfl⟩
  | surplusReport i => exact absurd hg.2.1 (by rw [h.provs]; nofun)
  | surplusCeases i => simp [Due.Guard, h.provs i, ProvBalance.clear, -Fin.getElem_fin] at hg
  | surplusEnds i => simp [Due.Guard, h.provs i, ProvBalance.clear, -Fin.getElem_fin] at hg
  | callOff i => exact absurd hg.2.1 (h.channels i).1
  | leadBegins i => exact absurd hg.2.1 (h.channels i).1
  | leadLost i => exact absurd hg.2.1 (h.channels i).1
  | postStop i => exact absurd hg.2.2.2.2.1 (by rw [(h.channels i).2]; nofun)
  | postStart i => exact absurd hg.2.2.1 (h.channels i).1
  | goIdle i st => simp [Due.Guard, State.nightWork, h.not_deciding] at hg
  | surplusBegins i => simp [Due.Guard, State.assessing, State.isActive, h.listening] at hg
  | bid i cause => simp [Due.Guard, h.not_deciding] at hg
  | enters m => simp [Due.Guard, h.not_deciding] at hg
  | stagger q => simp [Due.Guard, State.staggering, State.isActive, State.inConflict, h.listening] at hg
  | handIntent => simp [Due.Guard, State.mayHandIntent, State.isActive, h.listening] at hg

theorem settle_waits {s : State} (h : s.Waits) : s.SameBlocks (settle s) :=
  (settle_induct (P := fun t => t.Waits ∧ s.SameBlocks t) (fun t d ⟨hw, hm, hl, hr⟩ hg => by
    obtain ⟨hw', hm', hl', hr'⟩ := hw.fire hg
    exact ⟨hw', hm'.trans hm, hl'.trans hl, hr'.trans hr⟩) s ⟨h, rfl, rfl, rfl⟩).2

/-! ### LISTEN_IN after a warm restart (R84, R90, R152) -/

theorem restored_waits {s : State} (h : ∀ i : LpId, s.inUse i = false → s.chans[i] = Chan.powerOn .unused 0) :
    s.restored.Waits := by
  obtain ⟨chans, units, provs, hr, hparts⟩ := restored_spec s
  rw [hr]
  refine ⟨rfl, fun i => ?_, fun i => (hparts i).1, rfl⟩
  obtain ⟨-, hno, hyes⟩ := hparts i
  show chans[i].state ≠ .startPending ∧ chans[i].surplusHeld = false
  cases hu : s.inUse i with
  | false =>
    rw [(hno hu).1, h i hu]
    exact ⟨nofun, rfl⟩
  | true =>
    rw [(hyes hu).1, restoreChan_chan hu]
    exact ⟨(restoresTo_ne s i).1, rfl⟩

theorem restoreAll_mode (s : State) : (restoreAll (restartBlocks s)).mode =
    { s.mode with isolated := false, listenIn := .off, beaconT := .off } := by
  obtain ⟨hframe, -⟩ := ownAnswer_restore.walkAll s.cleared
  refine (congrArg State.mode hframe).trans ?_
  show (restartBlocks s).mode = _
  rw [restartBlocks_eq]
  rfl

theorem warmRestart_eq (s : State) : warmRestart s =
    beaconOutcome (s.beaconing && s.link.holdsTrigger) (listeningFrom (settle s.restored)) := by
  have hr : (restoreAll (restartBlocks s)).withMode { (restoreAll (restartBlocks s)).mode with
      station := some .listenIn } = s.restored := by
    rw [restoreAll_mode]
    rfl
  exact congrArg (fun u => beaconOutcome (s.beaconing && s.link.holdsTrigger) (listeningFrom (settle u))) hr

theorem restored_blocks (s : State) :
    s.restored.mode = { s.mode with station := some .listenIn, isolated := false, listenIn := .off, beaconT := .off } ∧
    s.restored.link = s.link.restarted ∧ s.restored.round = { Round.reset with nextSerial := s.round.nextSerial } ∧
    s.restored.peers = PeerTable.reset ∧ s.restored.svcs = Vector.replicate 12 SvcBalance.clear := by
  obtain ⟨chans, units, provs, hr, -⟩ := restored_spec s
  rw [hr]
  exact ⟨rfl, rfl, rfl, rfl, rfl⟩

/-- The beacon of LISTEN_IN is in progress at once, and waits for the line. -/
theorem listening_link {l : Link} (h : l.lineIdle = false) (f : OutFrame) :
    { l.restarted with waitBeacon := some f }.takeNext = { Link.reset with
      awaitIdle := true, inProgress := some { out := f, phase := .waiting, attempts := 0 } } := by
  unfold Link.restarted
  rw [h]
  rfl

/-- An announcement handed while another frame is in progress waits behind it. -/
theorem announce_handed {s : State} (hb : s.beaconing = true) (hu : s.link.announcementUnbegun = false) {p : Sending}
    (hp : s.link.inProgress = some p) : announce s =
      (s.withLink { s.link with waitPages := s.announcement }).withMode { s.mode with toggle := !s.mode.toggle } := by
  obtain ⟨hframe, hhanded, -⟩ := announce_spec hb
  obtain ⟨hmode, hlink⟩ := hhanded hu
  replace hlink := hlink.trans (takeNext_of_inProgress _ (by exact hp))
  rw [hframe, hmode, hlink]

/-- What a warm restart leaves, but for the consequences of the restored states. -/
theorem warmRestart_spec {s v : State} (hv : v = settle s.restored) (hidle : s.link.lineIdle = false)
    (h : ∀ i : LpId, s.inUse i = false → s.chans[i] = Chan.powerOn .unused 0) :
    v.mode = { s.mode with station := some .listenIn, isolated := false, listenIn := .off, beaconT := .off } ∧
    v.round = { Round.reset with nextSerial := s.round.nextSerial } ∧
    ∃ pages toggle, warmRestart s = (v.withMode { v.mode with
        listenIn := startAt v.listenInUs, beaconT := startAt (seconds v.statusSecs), seq := v.mode.seq + 1
        toggle }).withLink { Link.reset with
          awaitIdle := true, inProgress := some { out := v.beaconFrame true, phase := .waiting, attempts := 0 }
          waitPages := pages } ∧
      ((s.beaconing && s.link.holdsTrigger) = true → toggle = !s.mode.toggle ∧ pages = v.announcement) ∧
      ((s.beaconing && s.link.holdsTrigger) = false → toggle = s.mode.toggle ∧ pages = []) := by
  obtain ⟨hmode, hlink, hround⟩ := settle_waits (restored_waits h)
  obtain ⟨hm, hl, hr, -⟩ := restored_blocks s
  rw [← hv] at hmode hlink hround
  replace hlink := hlink.trans hl
  have hlisten := listeningFrom_eq (s := v) (by rw [hlink]; rfl)
  rw [hlink, listening_link hidle] at hlisten
  refine ⟨hmode.trans hm, hround.trans hr, ?_⟩
  have htoggle : v.mode.toggle = s.mode.toggle := by rw [hmode, hm]
  have hbegun : v.beaconing = true := by
    rw [State.beaconing, State.listening, hmode, hm]
    rfl
  rw [warmRestart_eq, ← hv, hlisten]
  cases s.beaconing && s.link.holdsTrigger with
  | false => exact ⟨[], v.mode.toggle, rfl, nofun, fun _ => ⟨htoggle, rfl⟩⟩
  | true =>
    refine ⟨v.announcement, !v.mode.toggle, ?_, fun _ => ⟨congrArg not htoggle, rfl⟩, nofun⟩
    rw [beaconOutcome, if_pos rfl]
    exact announce_handed (by exact hbegun) rfl rfl

/-! ### RESTART in a state that takes it (R16, R152, R170) -/

theorem holdsTrigger_iff (l : Link) : l.holdsTrigger = true ↔
    (∃ g, l.inProgress = some g ∧ g.out.origin = .beacon true) ∨ ∃ w, l.waitBeacon = some w ∧ w.origin = .beacon true := by
  unfold Link.holdsTrigger
  cases l.inProgress <;> cases l.waitBeacon <;> simp

/-- The end of the request's own frame leaves what the link holds. -/
theorem taken_holdsTrigger (s : State) : s.taken.link.holdsTrigger = s.link.holdsTrigger := by
  have hlink : s.taken.link.inProgress.map (fun g => g.out) = s.link.inProgress.map fun g => g.out := by
    show (s.link.inProgress.map _).map _ = _
    rw [Option.map_map]
    rfl
  have hread (l : Link) : l.holdsTrigger = ((l.inProgress.map fun g => g.out).any (fun f => f.origin == .beacon true) ||
      l.waitBeacon.any fun f => f.origin == .beacon true) := by
    unfold Link.holdsTrigger
    cases l.inProgress <;> cases l.waitBeacon <;> rfl
  rw [hread, hread, hlink]
  rfl

theorem exec_restart_taken {s : State} (hr : s.receiving = true) (ha : s.station.address.isSome = true) (seq : Byte) :
    exec (.restart seq) s = .next (match s.mode.station with
      | some .passive => rereadImage seq s.taken
      | some .addressConflict => warmRestart s.taken
      | _ => acceptDirective 7 seq (warmRestart s.taken)) := by
  have hnot : ¬s.station.address.isNone = true := by
    rw [Option.isNone_iff_eq_none, ← Option.not_isSome_iff_eq_none, ha]
    exact fun h => h rfl
  exact congrArg Host.Outcome.next ((if_pos hr).trans (if_neg hnot))

theorem announcement_congr {s t : State} (hc : t.config = s.config) (hs : t.station = s.station)
    (ht : t.mode.toggle = s.mode.toggle) : t.announcement = s.announcement := by
  unfold State.announcement State.frameOf State.ownAddress
  rw [hc, hs, ht]

/-! ### The reply at the outcome of a re-read (R170) -/

/-- An outcome that puts a station in force has given it an address. -/
def LoadOutcome.Addressed : LoadOutcome → Prop
  | .accepted station _ _ => station.address.isSome = true
  | .rejected _ _ => True

theorem checkBody_addressed (sum : Half) (body : List Byte) : (checkBody sum body).Addressed := by
  cases h : checkBody sum body with
  | accepted station c marks =>
    obtain ⟨-, -, -, rfl, -⟩ := accepted_cases h
    rfl
  | rejected fault station => trivial

/-- What a command of the loader, power-on apart, answers while the loader reads. -/
theorem exec_loader_busy {c : Instr} {s t : State} (hc : isLoaderCommand c = true) (hp : c ≠ .powerOn)
    (hbusy : s.loader.phase ≠ .done) (h : exec c s = .next t) : t = s ∨
    (∃ phase failures, phase ≠ .done ∧ t = s.withLoader { s.loader with phase, failures }) ∨
    ∃ o : LoadOutcome, o.Addressed ∧ t = endLoad o s := by
  have fails : attemptFails s = endLoad (.rejected .imageMissing StationFields.default) s ∨
      attemptFails s = s.withLoader { s.loader with phase := .header, failures := s.loader.failures + 1 } :=
    ite_eq_or_eq ..
  have failed (ht : t = attemptFails s) : t = s ∨
      (∃ phase failures, phase ≠ .done ∧ t = s.withLoader { s.loader with phase, failures }) ∨
      ∃ o : LoadOutcome, o.Addressed ∧ t = endLoad o s := by
    rcases fails with hf | hf
    · exact .inr (.inr ⟨.rejected .imageMissing StationFields.default, trivial, ht.trans hf⟩)
    · exact .inr (.inl ⟨.header, s.loader.failures + 1, nofun, ht.trans hf⟩)
  cases c <;> try cases hc
  case powerOn => exact absurd rfl hp
  case loadAttemptFailed =>
    rw [exec_loadAttemptFailed hbusy] at h
    exact failed (Host.Outcome.next.inj h).symm
  case headerRead format length sum =>
    cases h
    by_cases hph : s.loader.phase = .header
    · rw [if_pos hph]
      split
      · exact .inr (.inl ⟨.body sum, s.loader.failures, nofun, rfl⟩)
      · exact .inr (.inr ⟨.rejected .imageFormat StationFields.default, trivial, rfl⟩)
    · exact .inl (if_neg hph)
  case bodyRead body =>
    cases hph : s.loader.phase with
    | header =>
      refine .inl ?_
      cases h
      rw [hph]
    | body sum =>
      rw [exec_bodyRead hph] at h
      replace h := (Host.Outcome.next.inj h).symm
      split at h
      · exact failed h
      · exact .inr (.inr ⟨_, checkBody_addressed .., h⟩)
    | done => exact absurd hph hbusy

theorem announce_mode_station (s : State) : (announce s).mode.station = s.mode.station := by
  unfold announce
  split <;> rfl

theorem handBeacon_mode_station (first : Bool) (s : State) : (handBeacon first s).mode.station = s.mode.station := by
  by_cases h : ∃ w, s.link.waitBeacon = some w ∧ w.origin = .beacon true
  · obtain ⟨w, hw, ho⟩ := h
    rw [handBeacon_trigger first hw ho, announce_mode_station]
    rfl
  · rw [handBeacon_plain first fun w hw ho => h ⟨w, hw, ho⟩]
    rfl

theorem listeningFrom_keeps {s : State} (h : s.beaconing = true) : (listeningFrom s).loader = s.loader ∧
    (listeningFrom s).station = s.station ∧ (listeningFrom s).mode.station = s.mode.station := by
  have hframe := handBeacon_frame (s := s.withMode { s.mode with
    listenIn := startAt s.listenInUs, beaconT := startAt (seconds s.statusSecs) }) true h
  refine ⟨(congrArg State.loader hframe :), (congrArg State.station hframe :), handBeacon_mode_station ..⟩

/-- The state whose outcome of a re-read is reported: the load is over, and the reply is still owed. -/
theorem endLoad_answers {o : LoadOutcome} (ho : o.Addressed) (s : State) : ∃ u, endLoad o s = answerRestart u ∧
    u.loader.phase = .done ∧ u.loader.replySeq = s.loader.replySeq ∧ u.inConflict = false ∧
    (u.station.address = none → u.link = s.link) := by
  cases o with
  | rejected fault station => exact ⟨_, endLoad_rejected .., rfl, rfl, rfl, fun _ => rfl⟩
  | accepted station c marks =>
    obtain ⟨hloader, hstation, -, -, -, -, hmode, -⟩ := consequencesKeep (loadAccepted station c marks s)
    rw [endLoad_accepted]
    generalize settle (loadAccepted station c marks s) = v at *
    rw [loadAccepted_eq] at hloader hstation hmode
    have hbegun : v.beaconing = true := by
      rw [State.beaconing, State.listening, hmode]
      rfl
    refine ⟨_, rfl, ?_⟩
    obtain ⟨hl, hst, hm⟩ := listeningFrom_keeps hbegun
    refine ⟨by rw [hl, hloader]; rfl, by rw [hl, hloader]; rfl, by rw [State.inConflict, hm, hmode]; rfl, fun hn => ?_⟩
    rw [hst, hstation] at hn
    exact absurd ho (by rw [LoadOutcome.Addressed, show station.address = none from hn]; exact Bool.false_ne_true)

/-- The reply handed waits in its group, or is in progress at once. -/
theorem takeNext_holds_reply {l : Link} {r : OutFrame} (h : l.waitReply = some r) :
    l.takeNext.waitReply = some r ∨ l.takeNext.inProgress.map Sending.out = some r := by
  cases hp : l.inProgress with
  | some g => exact .inl (by rw [takeNext_of_inProgress l hp, h])
  | none =>
    cases hl : l.pagesLeft with
    | cons p ps => exact .inl (by rw [takeNext_page hp hl]; exact h)
    | nil =>
      cases hi : l.waitIntent with
      | some f => exact .inl (by rw [takeNext_intent hp hl hi]; exact h)
      | none => exact .inr (by rw [takeNext_reply hp hl hi h]; rfl)

/-- The reply that a RESTART in PASSIVE is owed, at the outcome of the re-read. -/
theorem restart_reply_owed {c : Instr} {seq : Byte} {s t : State} (hc : isLoaderCommand c = true) (hp : c ≠ .powerOn)
    (hbusy : s.loader.phase ≠ .done) (hq : s.loader.replySeq = some seq) (h : exec c s = .next t) :
    (t.loader.phase ≠ .done → t.loader.replySeq = some seq) ∧
    (t.loader.phase = .done → t.loader.replySeq = none ∧ (t.station.address = none → t.link = s.link) ∧
      ∀ a, t.station.address = some a → ∃ r : OutFrame, r.origin = .reply ∧
        r.frame = { kind := 10, source := a, destination := 0, seq := seq, payload := [9, 7, 2] } ∧
        (t.link.waitReply = some r ∨ t.link.inProgress.map Sending.out = some r)) := by
  rcases exec_loader_busy hc hp hbusy h with rfl | ⟨phase, failures, hphase, rfl⟩ | ⟨o, ho, rfl⟩
  · exact ⟨fun _ => hq, fun hd => absurd hd hbusy⟩
  · exact ⟨fun _ => hq, fun hd => absurd hd hphase⟩
  · obtain ⟨u, hu, hphase, hreply, hconflict, hlink⟩ := endLoad_answers ho s
    rw [hu]
    have hanswer : answerRestart u = handReply seq [9, 7, 2] (u.withLoader { u.loader with replySeq := none }) := by
      unfold answerRestart
      rw [hreply, hq]
      rfl
    rw [hanswer]
    cases ha : u.station.address with
    | none =>
      have hno : handReply seq [9, 7, 2] (u.withLoader { u.loader with replySeq := none }) =
          u.withLoader { u.loader with replySeq := none } :=
        if_neg (by show ¬(u.station.address.isSome && _) = true; rw [ha]; exact Bool.false_ne_true)
      rw [hno]
      exact ⟨fun hd => absurd hphase hd, fun _ => ⟨rfl, fun _ => hlink ha, fun a h => absurd (ha.symm.trans h) nofun⟩⟩
    | some a =>
      rw [handReply_of_address (by show u.station.address.isSome = true; rw [ha]; rfl) (by exact hconflict)]
      refine ⟨fun hd => absurd hphase hd, fun _ => ⟨rfl, fun h => absurd (ha.symm.trans h) nofun, fun b h => ?_⟩⟩
      refine ⟨_, rfl, ?_, takeNext_holds_reply rfl⟩
      have hb : u.station.address = some b := h
      show State.frameOf _ _ _ _ _ = _
      unfold State.frameOf State.ownAddress
      rw [show (u.withLoader { u.loader with replySeq := none }).station.address = some b from hb]
      rfl

theorem restored_keeps (s : State) : s.restored.loader = s.loader ∧ s.restored.station = s.station ∧
    s.restored.config = s.config ∧ s.restored.lines = s.lines ∧ s.restored.faults = s.faults := by
  obtain ⟨chans, units, provs, hr, -⟩ := restored_spec s
  rw [hr]
  simp

/-- What a warm restart keeps, and clears, of the blocks that its consequences do not reach. -/
theorem settle_restored {s v : State} (hv : v = settle s.restored) : v.loader = s.loader ∧ v.station = s.station ∧
    v.config = s.config ∧ v.lines = s.lines ∧ v.peers = PeerTable.reset ∧
    (v.faults = s.faults ∨ v.faults = { s.faults with flags := s.faults.flags ||| EventClass.recalled.bit }) := by
  obtain ⟨hloader, hstation, hconfig, hlines, hfaults⟩ := restored_keeps s
  obtain ⟨kloader, kstation, kconfig, klines, kpeers, -, -, -, kfaults, -⟩ := consequencesKeep s.restored
  rw [← hv, hfaults] at kfaults
  rw [hv]
  exact ⟨kloader.trans hloader, kstation.trans hstation, kconfig.trans hconfig, klines.trans hlines,
    kpeers.trans (restored_blocks s).2.2.2.1, hv ▸ kfaults⟩

theorem restored_parts (s : State) (i : LpId) : s.restored.provs[i] = ProvBalance.clear ∧
    (s.inUse i = false → s.restored.chans[i] = s.chans[i] ∧ s.restored.units[i] = s.units[i]) ∧
    (s.inUse i = true → s.restored.chans[i] = (restoreChan s i).chans[i] ∧
      s.restored.units[i] = { ActUnit.cleared with
        loaded := s.units[i].loaded, coasting := decide (s.restored.chans[i].state = .coasting) }) := by
  obtain ⟨chans, units, provs, hr, hparts⟩ := restored_spec s
  obtain ⟨hp, hno, hyes⟩ := hparts i
  rw [hr]
  refine ⟨hp, hno, fun h => ?_⟩
  obtain ⟨hc, hu⟩ := hyes h
  refine ⟨hc, hu.trans ?_⟩
  have hst : (restoreChan s i).chans[i].state = s.restoresTo i := by
    rw [restoreChan_chan h]
    rfl
  rw [← hst, ← hc]
  rfl

/-! ### A warm restart as RESTART asks for it -/

/-- A beacon is held whose outcome hands an announcement, and the station sends beacons. -/
def State.Announces (s : State) : Prop := s.beaconing = true ∧
  ((∃ g, s.link.inProgress = some g ∧ g.out.origin = .beacon true) ∨
    ∃ w, s.link.waitBeacon = some w ∧ w.origin = .beacon true)

theorem announces_iff (s : State) : s.Announces ↔ (s.beaconing && s.link.holdsTrigger) = true := by
  rw [Bool.and_eq_true, holdsTrigger_iff]
  rfl

/-- What stands when the consequences of the restored states are taken, and the listening of LISTEN_IN begins. -/
structure State.Relistens (s v t : State) (pages : List OutFrame) (toggle : Bool) : Prop where
  settled : v = settle s.taken.restored
  result : t = (v.withMode { v.mode with
      listenIn := startAt v.listenInUs, beaconT := startAt (seconds v.statusSecs), seq := v.mode.seq + 1
      toggle }).withLink { Link.reset with
        awaitIdle := true, inProgress := some { out := v.beaconFrame true, phase := .waiting, attempts := 0 }
        waitPages := pages }
  mode : v.mode = { s.mode with station := some .listenIn, isolated := false, listenIn := .off, beaconT := .off }
  round : v.round = { Round.reset with nextSerial := s.round.nextSerial }
  loader : v.loader = s.loader
  station : v.station = s.station
  config : v.config = s.config
  lines : v.lines = s.lines
  peers : v.peers = PeerTable.reset
  faults : v.faults = s.faults ∨ v.faults = { s.faults with flags := s.faults.flags ||| EventClass.recalled.bit }
  announces : s.Announces → toggle = !s.mode.toggle ∧ pages = s.announcement
  silent : ¬s.Announces → toggle = s.mode.toggle ∧ pages = []

theorem warmRestart_relistens {s : State} (h : ∀ i : LpId, s.inUse i = false → s.chans[i] = Chan.powerOn .unused 0) :
    ∃ v pages toggle, s.Relistens v (warmRestart s.taken) pages toggle := by
  obtain ⟨v, hv⟩ : ∃ v, v = settle s.taken.restored := ⟨_, rfl⟩
  obtain ⟨hmode, hround, pages, toggle, hwarm, hyes, hno⟩ := warmRestart_spec hv rfl h
  obtain ⟨hloader, hstation, hconfig, hlines, hpeers, hfaults⟩ := settle_restored hv
  rw [taken_holdsTrigger] at hyes hno
  refine ⟨v, pages, toggle, hv, hwarm, hmode, hround, hloader, hstation, hconfig, hlines, hpeers, hfaults, fun ha => ?_,
    fun ha => hno (Bool.eq_false_iff.mpr (mt (announces_iff s).mpr ha))⟩
  obtain ⟨htoggle, hpages⟩ := hyes ((announces_iff s).mp ha)
  exact ⟨htoggle, hpages.trans (announcement_congr hconfig hstation (by rw [hmode]; rfl))⟩

section
variable {s v t : State} {pages : List OutFrame} {toggle : Bool} (h : s.Relistens v t pages toggle)
include h

theorem State.Relistens.blocks : t.loader = s.loader ∧ t.station = s.station ∧ t.config = s.config ∧
    t.lines = s.lines ∧ t.peers = PeerTable.reset ∧
    (t.faults = s.faults ∨ t.faults = { s.faults with flags := s.faults.flags ||| EventClass.recalled.bit }) ∧
    t.round = { Round.reset with nextSerial := s.round.nextSerial } := by
  obtain rfl := h.result
  exact ⟨h.loader, h.station, h.config, h.lines, h.peers, h.faults, h.round⟩

theorem State.Relistens.modes : t.mode = { s.mode with
    station := some .listenIn, isolated := false, seq := s.mode.seq + 1, toggle
    listenIn := .running (max 8 (4 * s.station.statusInterval.toNat) * 1000000)
    beaconT := .running (s.station.statusInterval.toNat * 1000000) } := by
  have hm : t.mode = { v.mode with
      listenIn := startAt v.listenInUs, beaconT := startAt (seconds v.statusSecs), seq := v.mode.seq + 1, toggle } :=
    congrArg State.mode h.result
  rw [hm, State.listenInUs, State.statusSecs, h.station, h.mode]
  rfl

theorem State.Relistens.beacon : ∃ f : OutFrame, f.origin = .beacon true ∧
    f.frame = { kind := 1, source := s.ownAddress, destination := 255, seq := s.mode.seq, payload := beaconPayload t } ∧
    t.link = { Link.reset with
      awaitIdle := true, inProgress := some { out := f, phase := .waiting, attempts := 0 }, waitPages := pages } := by
  have hpayload : beaconPayload t = beaconPayload v := by
    obtain rfl := h.result
    rfl
  refine ⟨v.beaconFrame true, rfl, ?_, congrArg State.link h.result⟩
  show v.frameOf kindBeacon broadcast v.mode.seq (beaconPayload v) = _
  rw [hpayload, State.frameOf, State.ownAddress, State.ownAddress, h.station, h.mode]
  rfl

theorem State.Relistens.channels : t.chans = (settle s.taken.restored).chans ∧
    t.units = (settle s.taken.restored).units ∧ t.svcs = (settle s.taken.restored).svcs ∧
    t.provs = (settle s.taken.restored).provs := by
  rw [← h.settled]
  obtain rfl := h.result
  exact ⟨rfl, rfl, rfl, rfl⟩

end

theorem restored_svcs (s : State) (v : SvcId) : s.restored.svcs[v] = SvcBalance.clear := by
  rw [(restored_blocks s).2.2.2.2]
  exact Vector.getElem_replicate v.isLt

theorem restored_taken (s : State) (i : LpId) : s.taken.restored.provs[i] = ProvBalance.clear ∧
    (s.inUse i = false → s.taken.restored.chans[i] = s.chans[i] ∧ s.taken.restored.units[i] = s.units[i]) ∧
    (s.inUse i = true → s.taken.restored.chans[i] = (restoreChan s i).chans[i] ∧
      s.taken.restored.units[i] = { ActUnit.cleared with
        loaded := s.units[i].loaded, coasting := decide (s.taken.restored.chans[i].state = .coasting) }) := by
  obtain ⟨hp, hno, hyes⟩ := restored_parts s.taken i
  refine ⟨hp, hno, fun h => ?_⟩
  obtain ⟨hc, hu⟩ := hyes h
  exact ⟨hc.trans (restoreChan_chan_congr rfl rfl rfl h), hu⟩

/-- The answer to RESTART outside PASSIVE. -/
theorem exec_restart_outside {s : State} (hr : s.receiving = true) (ha : s.station.address.isSome = true)
    (hm : s.mode.station ≠ some .passive) (seq : Byte) :
    (s.inConflict = false → exec (.restart seq) s = .next (handReply seq [9, 7, 2] (warmRestart s.taken))) ∧
    (s.inConflict = true → exec (.restart seq) s = .next (warmRestart s.taken)) := by
  rw [exec_restart_taken hr ha seq, State.inConflict]
  generalize s.mode.station = st at *
  cases st with
  | none => exact ⟨fun _ => rfl, nofun⟩
  | some st => cases st with
    | passive => exact absurd rfl hm
    | addressConflict => exact ⟨nofun, fun _ => rfl⟩
    | listenIn => exact ⟨fun _ => rfl, nofun⟩
    | active => exact ⟨fun _ => rfl, nofun⟩

/-- The answer to RESTART in PASSIVE. -/
theorem rereadImage_taken (seq : Byte) (s : State) : ∃ t, rereadImage seq s.taken = t ∧
    t.loader = { s.loader with phase := .header, failures := 0, warm := true, replySeq := some seq } ∧
    t.peers = PeerTable.reset ∧ t.link = { Link.reset with awaitIdle := true } ∧ t.faults = s.faults ∧
    t.round = { Round.reset with nextSerial := s.round.nextSerial } ∧ t.chans = s.chans ∧ t.units = s.units ∧
    t.lines = s.lines ∧ t.config = s.config ∧ t.station = s.station ∧
    t.mode = { s.mode with isolated := false, listenIn := .off, beaconT := .off } := by
  have he : rereadImage seq s.taken = (restartBlocks s.taken).withLoader { (restartBlocks s.taken).loader with
      phase := .header, failures := 0, warm := true, replySeq := some seq } := rfl
  refine ⟨_, rfl, ?_⟩
  rw [he, restartBlocks_eq]
  simp [Link.restarted, State.taken, frameEnd, accept, State.withCounters, Link.lineEnds, Link.rephase, Link.reset]

/-- Settles O55. -/
theorem restartRestores : Obligations.RestartRestores := by
  refine ⟨fun seq s hq hr ha hm => ?_, fun seq s hr ha hm => ?_, fun c seq s t hc hp hbusy hq h =>
    restart_reply_owed hc hp hbusy hq h, fun s i hi => ?_⟩
  · intro t announces
    obtain ⟨hnext, hconflict⟩ := exec_restart_outside hr ha hm seq
    obtain ⟨-, hunused, -⟩ := hq
    obtain ⟨v, pages, toggle, hre⟩ := warmRestart_relistens hunused
    change s.Relistens v t pages toggle at hre
    obtain ⟨hloader, hstation, hconfig, hlines, hpeers, hfaults, hround⟩ := hre.blocks
    have hmode := hre.modes
    obtain ⟨f, horigin, hframe, hlink⟩ := hre.beacon
    obtain ⟨hchans, hunits, hsvcs, hprovs⟩ := hre.channels
    obtain ⟨bmode, -, -, bpeers, -⟩ := restored_blocks s.taken
    obtain ⟨-, -, bconfig, blines, -⟩ := restored_keeps s.taken
    have hyes : announces → _ := hre.announces
    have hno : ¬announces → _ := hre.silent
    change s.inConflict = false → exec (.restart seq) s = .next (handReply seq [9, 7, 2] t) at hnext
    change s.inConflict = true → exec (.restart seq) s = .next t at hconflict
    clear_value t announces
    rw [hmode, hround]
    refine ⟨hnext, hconflict, hloader, hstation, hconfig, hlines, hpeers, hfaults, rfl, rfl, rfl, rfl, rfl, rfl, rfl,
      fun ha => (hyes ha).1, fun hn => (hno hn).1, rfl, rfl, rfl, rfl, ⟨f, horigin, hframe, ?_⟩, ?_⟩
    · rw [hlink]
      exact ⟨rfl, fun ha => (hyes ha).2, fun hn => (hno hn).2⟩
    · exact ⟨s.taken.restored, hchans, hunits, hsvcs, hprovs, congrArg ModeCtl.station bmode, bpeers, bconfig, blines,
        restored_svcs s.taken, restored_taken s⟩
  · rw [exec_restart_taken hr ha seq, hm]
    obtain ⟨t, ht, hspec⟩ := rereadImage_taken seq s
    exact ⟨t, congrArg Host.Outcome.next ht, hspec⟩
  · intro t st
    have hst : st = s.restoresTo i := (restoresTo_eq s i).symm
    have ht : t = restoreChan s i := rfl
    clear_value st t
    subst hst ht
    rw [restoreChan_unit hi]
    exact ⟨restoreChan_chan hi, rfl, rfl, rfl, fun j hj => (restoreChan_other hj).1⟩

end Sys2Proof.Machine
end

section
/-! PROOFS, the answers to inquiries (R102, R166 to R168): the records a reply holds, and what forming it clears. -/

namespace Sys2Proof.Machine

/-! ### The records that fit (R166) -/

theorem takeFit_prefix : ∀ (room : Nat) (rs : List (List Byte)), takeFit room rs <+: rs
  | _, [] => List.prefix_rfl
  | room, r :: rs => by
    unfold takeFit
    split
    · exact (List.prefix_cons_inj r).mpr (takeFit_prefix _ rs)
    · exact List.nil_prefix

theorem takeFit_flatten_length : ∀ (room : Nat) (rs : List (List Byte)), (takeFit room rs).flatten.length ≤ room
  | _, [] => Nat.zero_le _
  | room, r :: rs => by
    unfold takeFit
    split
    · rename_i hr
      have ih := takeFit_flatten_length (room - r.length) rs
      rw [List.flatten_cons, List.length_append]
      omega
    · exact Nat.zero_le _

/-- The first record that is left out does not fit the room that the held ones leave. -/
theorem takeFit_stops : ∀ (room : Nat) (rs : List (List Byte)) (r : List Byte),
    rs[(takeFit room rs).length]? = some r → room < (takeFit room rs).flatten.length + r.length
  | _, [], _, h => by cases h
  | room, x :: rs, r, h => by
    unfold takeFit at h ⊢
    split
    · rename_i hx
      rw [if_pos hx, List.length_cons, List.getElem?_cons_succ] at h
      have ih := takeFit_stops (room - x.length) rs r h
      rw [List.flatten_cons, List.length_append]
      omega
    · rename_i hx
      rw [if_neg hx, List.length_nil, List.getElem?_cons_zero, Option.some.injEq] at h
      rw [← h, List.flatten_nil, List.length_nil]
      omega

section
variable (t : Table) (start count : Byte) (s : State)

theorem heldRecords_prefix : heldRecords t start count s <+: (t.records s).drop start.toNat :=
  (takeFit_prefix _ _).trans (List.take_prefix _ _)

theorem heldRecords_length : (heldRecords t start count s).length ≤ count.toNat :=
  (takeFit_prefix _ _).length_le.trans (List.length_take_le _ _)

theorem replyPrefix_length : (replyPrefix s t).length ≤ 2 := by
  cases t
  case peerTable =>
    unfold replyPrefix
    cases s.peers.overflow.secsLeft <;> exact Nat.le_refl 2
  all_goals exact Nat.zero_le 2

theorem heldRecords_room :
    (replyPrefix s t).length + (heldRecords t start count s).flatten.length ≤ 58 := by
  have hp := replyPrefix_length t s
  have hf : (heldRecords t start count s).flatten.length ≤ 58 - (replyPrefix s t).length := takeFit_flatten_length _ _
  omega

theorem heldRecords_stops (hc : (heldRecords t start count s).length < count.toNat) {r : List Byte}
    (h : (t.records s)[start.toNat + (heldRecords t start count s).length]? = some r) :
    58 < (replyPrefix s t).length + (heldRecords t start count s).flatten.length + r.length := by
  have hp := replyPrefix_length t s
  have hs : 58 - (replyPrefix s t).length < (heldRecords t start count s).flatten.length + r.length :=
    takeFit_stops _ _ r ((List.getElem?_take_of_lt hc).trans (List.getElem?_drop.trans h))
  omega

end

/-- The one record of the counters is held unless none is asked for. -/
theorem heldRecords_counters {start : Byte} (h : start.toNat < 1) (count : Byte) (s : State) :
    heldRecords .counters start count s = if count = 0 then [] else [counterRecord s] := by
  have h0 : start.toNat = 0 := by omega
  have he : heldRecords .counters start count s = takeFit 58 ([counterRecord s].take count.toNat) := by
    rw [heldRecords, h0]
    rfl
  rw [he]
  split
  · rename_i hc
    rw [hc]
    rfl
  · rename_i hc
    have hpos : 1 ≤ count.toNat := by
      rw [Nat.one_le_iff_ne_zero]
      exact fun h0 => hc (BitVec.eq_of_toNat_eq h0)
    rw [List.take_of_length_le hpos]
    rfl

/-! ### The answer -/

section
variable {s : State} (hr : s.receiving = true) (ha : s.station.address.isSome = true) (hc : s.inConflict = false)
include hr ha hc

theorem inquiry_acts {t : Table} {code : Byte} (ht : Table.ofCode code = some t) (seq start count : Byte) :
    toolFrame (inquire code seq start count) s = answerInquiry t code seq start count s.taken := by
  rw [toolFrame_acts hr ha hc, inquire, ht]

end

theorem answerInquiry_badIndex {t : Table} {s : State} {start : Byte} (h : (t.records s).length ≤ start.toNat)
    (code seq count : Byte) : answerInquiry t code seq start count s =
      handReply seq [8, code, 3, 2, BitVec.ofNat 8 (t.records s).length] s := if_pos h

theorem answerInquiry_records {t : Table} {s : State} {start : Byte} (h : start.toNat < (t.records s).length)
    (code seq count : Byte) : answerInquiry t code seq start count s =
      handReply seq ([8, code, 1, start, BitVec.ofNat 8 (heldRecords t start count s).length,
        BitVec.ofNat 8 (t.records s).length] ++ replyPrefix s t ++ (heldRecords t start count s).flatten)
        (readClears t start.toNat (heldRecords t start count s).length s) := if_neg (Nat.not_le.mpr h)

theorem replyPrefix_eq (t : Table) (s : State) : replyPrefix s t = if t = .peerTable then
    [if s.viewOverflow then 1 else 0, match s.peers.overflow with
      | .running us => BitVec.ofNat 8 ((us + 999999) / 1000000)
      | .off => 255
      | .expired => 0] else [] := by
  cases t
  case peerTable =>
    rw [if_pos rfl]
    unfold replyPrefix
    cases s.peers.overflow <;> rfl
  all_goals exact (if_neg nofun).symm

/-- The command and the code of each table's inquiry. -/
def Table.inquiry (seq start count : Byte) : Table → Instr × Byte
  | .stationStatus => (.inquiryStationStatus seq start count, 1)
  | .lpRuntime => (.inquiryLpRuntime seq start count, 2)
  | .peerTable => (.inquiryPeerTable seq start count, 3)
  | .lastRound => (.inquiryLastRound seq start count, 4)
  | .faultRecords => (.inquiryFaultRecords seq start count, 5)
  | .counters => (.inquiryCounters seq start count, 6)
  | .configurationEcho => (.inquiryConfigurationEcho seq start count, 7)

theorem exec_inquiry (t : Table) (seq start count : Byte) {s : State} (hr : s.receiving = true)
    (ha : s.station.address.isSome = true) (hc : s.inConflict = false) :
    exec (t.inquiry seq start count).1 s =
      .next (answerInquiry t (t.inquiry seq start count).2 seq start count s.taken) := by
  have hcode : Table.ofCode (t.inquiry seq start count).2 = some t := by cases t <;> rfl
  have hexec : exec (t.inquiry seq start count).1 s =
      .next (toolFrame (inquire (t.inquiry seq start count).2 seq start count) s) := by cases t <;> rfl
  rw [hexec, inquiry_acts hr ha hc hcode]

/-- The tables in the order of their codes. -/
def Table.all : List Table :=
  [.stationStatus, .lpRuntime, .peerTable, .lastRound, .faultRecords, .counters, .configurationEcho]

theorem inquiry_of_mem {t : Table} {c : Instr} {code seq start count : Byte}
    (h : (t, c, code) ∈ Table.all.map fun t => (t, t.inquiry seq start count)) :
    t.inquiry seq start count = (c, code) := by
  obtain ⟨u, -, hu⟩ := List.mem_map.mp h
  obtain ⟨rfl, hcode⟩ := Prod.mk.inj hu
  exact hcode

/-! ### What forming a reply clears (R168) -/

theorem readClears_counters (start n : Nat) (s : State) : readClears .counters start n s = if n = 0 then s else
    s.withLink { s.link with counters := LinkCounters.zero, latch := false } := by
  cases n <;> rfl

theorem readClears_lpRuntime (start n : Nat) (s : State) :
    readClears .lpRuntime start n s = s.withUnits (readClears .lpRuntime start n s).units ∧
    ∀ i : LpId, (readClears .lpRuntime start n s).units[i] =
      if start ≤ i.val ∧ i.val < start + n then { s.units[i] with dirFlag := false } else s.units[i] :=
  ⟨rfl, fun i => Vector.getElem_ofFn i.isLt⟩

theorem readClears_other {t : Table} (hc : t ≠ .counters) (hl : t ≠ .lpRuntime) (start n : Nat) (s : State) :
    readClears t start n s = s := by
  cases t
  case counters => exact absurd rfl hc
  case lpRuntime => exact absurd rfl hl
  all_goals rfl

end Sys2Proof.Machine
end

section
/-! PROOFS, the records of the seven tables (section 11.3) and the answer to an inquiry: each item at its offset and in
its width. -/

namespace Sys2Proof.Machine

/-! ### Widths, marks and times -/

theorem le_eq (w x : Nat) : le w x = (List.range w).map fun k => BitVec.ofNat 8 (x / 256 ^ k) := by
  induction w generalizing x with
  | zero => rfl
  | succ w ih =>
    rw [le, ih, List.range_succ_eq_map, List.map_cons, List.map_map, pow_zero, Nat.div_one]
    refine congrArg _ (List.map_congr_left fun k _ => ?_)
    rw [Nat.div_div_eq_div_mul, Function.comp_apply, pow_succ, Nat.mul_comm]

theorem le_one (x : Nat) : le 1 x = [BitVec.ofNat 8 x] := rfl

theorem marksOf_eq (bs : List Bool) : bs.foldr (fun b m => (if b then 1 else 0) + 2 * m) 0 = marksOf bs := by
  induction bs with
  | nil => rfl
  | cons b bs ih => exact congrArg (fun m => (if b then 1 else 0) + 2 * m) ih

theorem levelByte_eq (l : Option Bool) : leOpt 1 (l.map Bool.toNat) = [levelByte l] := by
  rcases l with _ | _ | _ <;> rfl

/-- The time a timer has left, in whole units rounded up. -/
def Timer.unitsLeft (unit : Nat) : Timer → Option Nat
  | .off => none
  | .running us => some ((us + unit - 1) / unit)
  | .expired => some 0

theorem unitsLeft_secs (x : Timer) : x.unitsLeft 1000000 = x.secsLeft := by
  cases x with
  | off => rfl
  | running us => exact congrArg (fun n => some (n / 1000000)) (Nat.add_sub_assoc (by decide) us)
  | expired => rfl

theorem unitsLeft_millis (x : Timer) : x.unitsLeft 1000 = x.millisLeft := by
  cases x with
  | off => rfl
  | running us => exact congrArg (fun n => some (n / 1000)) (Nat.add_sub_assoc (by decide) us)
  | expired => rfl

/-! ### Codes -/

theorem StationState.code_eq (x : StationState) : [.passive, .listenIn, .active, .addressConflict].idxOf x = x.code := by
  cases x <;> rfl
theorem PlantMode.code_eq (x : PlantMode) : [.day, .night, .wake].idxOf x = x.code := by cases x <;> rfl
theorem ImageStatus.code_eq (x : ImageStatus) : [.good, .goodClamped, .rejected].idxOf x = x.code := by cases x <;> rfl
theorem RoundPhase.code_eq (x : RoundPhase) : [.closed, .opened, .guarding].idxOf x = x.code := by cases x <;> rfl
theorem LpState.code_eq (x : LpState) : [.unused, .running, .idleWatch, .stopPending, .stopRequested, .coasting,
    .stopped, .startPending, .starting, .manual, .excluded, .lockout].idxOf x = x.code := by cases x <;> rfl
theorem ActMode.code_eq (x : ActMode) : [.none, .stroke, .loadLevel, .rotation, .paired].idxOf x = x.code := by
  cases x <;> rfl
theorem modeCode_eq (x : BeaconMode) : [.listenIn, .day, .night, .wake].idxOf x = modeCode x := by cases x <;> rfl
theorem Action.code_eq (x : Action) : [Action.stop, .start].idxOf x = x.code := by cases x <;> rfl
theorem Cause.code_eq (x : Cause) : [Cause.night, .wake, .shortfall].idxOf x = x.code := by cases x <;> rfl
theorem StartCause.code_eq (x : StartCause) : 1 + [.wake, .shortfall].idxOf x = x.asCause.code := by cases x <;> rfl
theorem Sign.code_eq (x : Sign) : [.plus, .minus].idxOf x = match x with | .plus => 0 | .minus => 1 := by
  cases x <;> rfl

theorem pairBytes_eq (ds : List (SvcId × Nat)) : pairBytes ds = [0, 1, 2].flatMap fun k => match ds[k]? with
    | some d => le 1 d.1.val ++ le 1 d.2
    | none => [Config.unusedPairByte (2 * k), Config.unusedPairByte (2 * k + 1)] := by
  unfold pairBytes
  refine congrArg (fun f => List.flatMap f [0, 1, 2]) (funext fun k => ?_)
  cases ds[k]? <;> rfl

theorem entryBytes_eq (e : Entry) : entryBytes e = le 1 e.lp.val ++ le 1 e.action.code ++ le 1 e.cause.code ++
    le 1 e.level ++ leOpt 1 (e.provides.map Fin.val) ++ le 2 e.capacity ++ le 1 e.inrush ++ le 1 e.demands.length ++
    pairBytes e.demands := by
  simp only [entryBytes, le_one, List.append_assoc, List.cons_append, List.nil_append]

/-! ### The records (section 11.3) -/

theorem clampedField_eq (f : Option (ImageObject × Nat)) : clampedField f = match f with
    | some (o, k) => le 1 o.code ++ le 1 k
    | none => [255, 255] := by rcases f with _ | ⟨o, k⟩ <;> rfl

theorem topAlertByte_eq (x : Option (Nat × Nat)) : [topAlertByte x] = match x with
    | some (c, l) => le 1 (16 * c + l)
    | none => [0] := by rcases x with _ | ⟨c, l⟩ <;> rfl

theorem optCode_eq (x : Option FaultCode) : optCode x = match x with
    | none => [255, 255, 255]
    | some (.imageStructure sub o) => le 1 9 ++ le 1 sub ++ le 1 o.code
    | some c => le 1 (1 + [.grantRefused, .stopNotSeen, .startNotSeen, .coastOverrun, .outputStuck, .imageMissing,
        .imageFormat, .imageSum, .imageStructure 0 .station, .clamped].idxOf c) ++ [255, 255] := by
  rcases x with _ | c
  · rfl
  · cases c <;> rfl

theorem statusRecord_eq (s : State) : statusRecord s =
    leOpt 1 (s.mode.station.map StationState.code) ++ le 1 s.mode.plant.code ++ [markByte s.mode.isolated] ++
    leOpt 1 (s.mode.nightLevel.map Bool.toNat) ++ [markByte s.nightSignal] ++ [s.station.followPlantNight] ++
    leOpt 1 s.mode.listenIn.secsLeft ++ le 4 s.faults.uptime.toNat ++
    leOpt 1 (s.loader.status.map ImageStatus.code) ++ le 1 s.loader.clampCount ++
    clampedField s.loader.firstClamped ++ le 1 s.round.phase.code ++ leOpt 2 s.round.timeLeft ++ le 1 s.round.heard ++
    [markByte s.round.join] ++ [markByte s.round.doubtful] ++ le 2 s.faults.flags.toNat ++
    s.station.levels.toList ++ [s.station.alertThreshold] ++ [topAlertByte s.topAlertCode] ++
    [markByte s.alertAsserted] := by
  simp only [statusRecord, u8, le_one, levelByte_eq, List.append_assoc, List.cons_append, List.nil_append]

theorem runtimeRecord_eq (s : State) (i : LpId) : runtimeRecord s i =
    le 1 s.chans[i].state.code ++ leOpt 1 s.chans[i].stopT.secsLeft ++ leOpt 2 s.chans[i].coastT.secsLeft ++
    leOpt 1 s.chans[i].startT.secsLeft ++ leOpt 1 s.chans[i].settleT.secsLeft ++ leOpt 2 s.chans[i].runOnT.secsLeft ++
    leOpt 2 s.chans[i].leadT.secsLeft ++ leOpt 1 (s.chans[i].cause.map fun x => x.asCause.code) ++
    le 1 s.chans[i].retry ++ le 1 s.chans[i].recalls ++ leOpt 1 (match s.chans[i].lockout with
      | .none => none
      | .soft => some 1
      | .hard => some 2) ++
    leOpt 1 s.chans[i].watch.millisLeft ++
    le 2 (marksOf [s.chans[i].overrun, s.chans[i].runOnDone, s.chans[i].surplusHeld, s.chans[i].entryQueued,
      s.chans[i].autoOff, s.units[i].armed, s.units[i].dirFlag, s.isProvider i && s.provs[i].established,
      s.isProvider i && s.provs[i].reported]) ++
    le 1 (s.unitMode i).code ++ le 2 s.units[i].count.toNat ++ leOpt 1 (s.units[i].loaded.map Bool.toNat) ++
    le 2 s.units[i].idle ++ le 2 s.units[i].lastDelta.toNat ++
    leOpt 1 (s.units[i].lastSign.map fun x => [Sign.plus, .minus].idxOf x) ++ le 1 s.units[i].dirCount ++
    le 1 s.units[i].runCount ++ leOpt 2 (match s.provided i with
      | some v => s.provs[i].timer.secsRun (s.svcBlock v).surplusHold.toNat
      | none => none) := by
  have hlockout : [u8 s.chans[i].lockout.code] = leOpt 1 (match s.chans[i].lockout with
      | .none => none
      | .soft => some 1
      | .hard => some 2) := by cases s.chans[i].lockout <;> rfl
  have hhold : (if s.isProvider i then s.provs[i].timer.secsRun (match s.provided i with
      | some v => (s.svcBlock v).surplusHold.toNat
      | none => 0) else none) = (match s.provided i with
      | some v => s.provs[i].timer.secsRun (s.svcBlock v).surplusHold.toNat
      | none => none) := by
    rw [State.isProvider]
    cases s.provided i <;> rfl
  rw [← hlockout, ← hhold]
  simp only [runtimeRecord, u8, le_one, levelByte_eq, List.append_assoc, List.cons_append, List.nil_append,
    Sign.code_eq] <;> rfl

theorem faultRecord_eq (r : FaultRecord) : faultRecord r = le 1 (marksOf [r.valid, r.locking, r.overflow]) ++
    optCode r.first ++ le 4 r.firstTime.toNat ++ leOpt 1 (r.stateAt.map FaultState.code) ++ optCode r.last ++
    le 1 r.further := rfl

theorem counterRecord_eq (s : State) : counterRecord s = le 2 s.link.counters.accepted ++
    le 2 s.link.counters.crcErrors ++ le 2 s.link.counters.formatErrors ++ le 2 s.link.counters.lostContentions ++
    le 2 s.link.counters.abandoned ++ le 2 s.link.counters.lateIntents ++ le 2 s.link.counters.missedRounds ++
    [markByte s.link.latch] := rfl

theorem serviceBytes_eq (b : ServiceBlock) : serviceBytes b = [b.inUse, b.margin] ++ le 2 b.cmin.toNat ++
    le 2 b.surplusHold.toNat ++ [b.shortfallConfirm] := rfl

theorem lpIds_eq : lpIds = List.finRange 8 := by decide
theorem svcIds_eq : svcIds = List.finRange 12 := by decide

/-- The records of a vector in the order of its indices. -/
theorem toList_map {α β : Type} {k : Nat} (f : α → β) (v : Vector α k) :
    v.toList.map f = (List.finRange k).map fun i => f v[i] := by
  rw [← List.ofFn_eq_map]
  apply List.ext_getElem
  · simp
  · intro n h₁ h₂
    simp

theorem lps_map {β α : Type} (f : α → β) (v : Vector α 8) : v.toList.map f = lpIds.map fun i => f v[i] := by
  rw [lpIds_eq, toList_map]

theorem services_map {β α : Type} (f : α → β) (v : Vector α 12) : v.toList.map f = svcIds.map fun i => f v[i] := by
  rw [svcIds_eq, toList_map]

/-! ### The peer table -/

theorem insertFigure_perm (f : Figure) : ∀ fs : List Figure, (insertFigure f fs).Perm (f :: fs)
  | [] => List.Perm.refl _
  | x :: xs => by
    unfold insertFigure
    split
    · exact List.Perm.refl _
    · exact ((insertFigure_perm f xs).cons x).trans (List.Perm.swap f x xs)

theorem insertFigure_ascends (f : Figure) : ∀ {fs : List Figure}, fs.Pairwise (fun f g => f.service ≤ g.service) →
    (insertFigure f fs).Pairwise fun f g => f.service ≤ g.service
  | [], _ => List.pairwise_singleton _ _
  | x :: xs, h => by
    obtain ⟨hx, hxs⟩ := List.pairwise_cons.mp h
    unfold insertFigure
    split
    · rename_i hlt
      exact List.pairwise_cons.mpr ⟨fun g hg => (List.mem_cons.mp hg).elim (fun he => he ▸ hlt.le)
        fun hg => hlt.le.trans (hx g hg), h⟩
    · rename_i hlt
      refine List.pairwise_cons.mpr ⟨fun g hg => ?_, insertFigure_ascends f hxs⟩
      rcases List.mem_cons.mp ((insertFigure_perm f xs).mem_iff.mp hg) with rfl | hg
      · exact not_lt.mp hlt
      · exact hx g hg

/-- The figures of an entry in the order a record carries them. -/
def PeerEntry.ordered (e : PeerEntry) : List Figure := e.figures.foldr insertFigure []

theorem PeerEntry.ordered_spec (e : PeerEntry) : e.ordered.Perm e.figures ∧
    e.ordered.Pairwise fun f g => f.service ≤ g.service := by
  unfold PeerEntry.ordered
  induction e.figures with
  | nil => exact ⟨List.Perm.refl _, List.Pairwise.nil⟩
  | cons f fs ih =>
    obtain ⟨hperm, hasc⟩ := ih
    exact ⟨(insertFigure_perm f _).trans (hperm.cons f), insertFigure_ascends f hasc⟩

theorem peerMarks_eq (e : PeerEntry) : marksOf [e.freshness == .stale] + 2 * e.planState.code +
    8 * marksOf [e.night, e.viewOverflow, e.isolated, e.assembly.isSome] =
    marksOf [e.freshness == .stale, e.planState == .matched, e.planState == .mismatched, e.night, e.viewOverflow,
      e.isolated, e.assembly.isSome] := by
  have hplan : ∀ p : PlanState, 2 * p.code = 2 * marksOf [p == .matched, p == .mismatched] := by
    rintro (_ | _ | _) <;> rfl
  rw [hplan]
  simp only [marksOf]
  omega

theorem peerRecord_eq (e : PeerEntry) : peerRecord e = [e.address] ++
    le 1 (marksOf [e.freshness == .stale, e.planState == .matched, e.planState == .mismatched, e.night,
      e.viewOverflow, e.isolated, e.assembly.isSome]) ++
    leOpt 1 (e.mode.map modeCode) ++ leOpt 1 e.interval ++ leOpt 1 (e.lastSeq.map BitVec.toNat) ++ le 1 e.missed ++
    leOpt 1 e.age.secsLeft ++ [topAlertByte e.topAlert] ++ leOpt 2 (e.planHeard.map BitVec.toNat) ++
    leOpt 1 (e.lastToggle.map BitVec.toNat) ++ leOpt 1 (e.assembly.map Assembly.next) ++
    leOpt 1 e.answerHold.secsLeft ++ le 1 e.figures.length ++
    (e.ordered.take 8).flatMap fun f => le 1 f.service.val ++ le 2 f.demand.toNat ++ le 2 f.capacity.toNat := by
  rw [← peerMarks_eq]
  rfl

/-! ### The last round -/

theorem lastRoundHead_eq (r : LastRound) : lastRoundHead r = le 4 r.closeTime.toNat ++ le 2 r.budget ++ le 2 r.used ++
    le 1 r.heard ++ le 1 r.refused ++ le 1 (marksOf [r.doubtful, r.isolated, r.viewOverflow]) := by
  simp only [lastRoundHead, u8, le_one, List.append_assoc, List.cons_append, List.nil_append]

theorem lastRoundEntry_eq (x : ListEntry × EntryOutcome) : lastRoundEntry x = [x.1.station] ++ entryBytes x.1.entry ++
    match x.2 with
    | .granted => [0, 0]
    | .deferred => [1, 0]
    | .skippedDemand => [2, 1]
    | .skippedNotNeeded => [2, 2]
    | .deniedCapacity => [3, 3]
    | .deniedService => [3, 4]
    | .deniedView => [3, 5] := by
  obtain ⟨l, o⟩ := x
  cases o <;> rfl

/-! ### The configuration echo -/

theorem echoTable_eq (s : State) : echoTable s = stationEcho s :: match s.config with
    | none => []
    | some c => planBytes c.plan :: ((svcIds.map fun v => serviceBytes c.services[v]) ++
        lpIds.map fun i => lpBytes c.lps[i]) := by
  unfold echoTable
  cases s.config with
  | none => rfl
  | some c => exact congrArg₂ (fun a b => stationEcho s :: planBytes c.plan :: (a ++ b)) (services_map ..) (lps_map ..)

/-! ### The answers -/

/-- The answer to an inquiry, by the table's length. -/
theorem inquiry_answered (seq start count : Byte) (s : State) (table : Table) (c : Instr) (code : Byte)
    (hr : s.receiving = true) (ha : s.station.address.isSome = true) (hc : s.inConflict = false)
    (hmem : (table, c, code) ∈ Table.all.map fun t => (t, t.inquiry seq start count)) :
    ((table.records s.taken).length ≤ start.toNat → exec c s = .next
      (handReply seq [8, code, 3, 2, BitVec.ofNat 8 (table.records s.taken).length] s.taken)) ∧
    (start.toNat < (table.records s.taken).length → exec c s = .next
      (handReply seq ([8, code, 1, start, BitVec.ofNat 8 (heldRecords table start count s.taken).length,
        BitVec.ofNat 8 (table.records s.taken).length] ++ replyPrefix s.taken table ++
        (heldRecords table start count s.taken).flatten)
        (readClears table start.toNat (heldRecords table start count s.taken).length s.taken))) := by
  have hexec := exec_inquiry table seq start count hr ha hc
  rw [inquiry_of_mem hmem] at hexec
  exact ⟨fun h => hexec.trans (congrArg _ (answerInquiry_badIndex h ..)),
    fun h => hexec.trans (congrArg _ (answerInquiry_records h ..))⟩

/-- Settles O53. -/
theorem inquiriesAreAnswered : Obligations.InquiriesAreAnswered := by
  refine ⟨fun seq start count s table c code hr ha hc hmem => ?_, fun s => ?_⟩
  · obtain ⟨hbad, hheld⟩ := inquiry_answered seq start count s table c code hr ha hc hmem
    intro b records
    refine ⟨hbad, fun hlt => ⟨_, _, _, hheld hlt, heldRecords_prefix .., heldRecords_length .., heldRecords_room ..,
      replyPrefix_eq .., fun hcount hend r h => heldRecords_stops _ _ _ _ hcount h, ?_, ?_, fun hnc hnl =>
        readClears_other hnc hnl _ _ _⟩⟩
    · rintro rfl
      refine ⟨(readClears_counters ..).trans (if_congr List.length_eq_zero_iff rfl rfl), heldRecords_counters hlt _ _⟩
    · rintro rfl
      exact readClears_lpRuntime ..
  intro n opt mark marks left ran entry object clamped imageStatus top code lpState service fault
  have hn : ∀ w x, n w x = le w x := fun w x => (le_eq w x).symm
  have hopt : ∀ w x, opt w x = leOpt w x := fun w x => by cases x <;> [rfl; exact hn w _]
  have hmark : ∀ b, mark b = [markByte b] := fun b => rfl
  have hmarks : ∀ bs, marks bs = marksOf bs := marksOf_eq
  have hleft : ∀ unit x, left unit x = x.unitsLeft unit := fun unit x => by cases x <;> rfl
  have hsecs : ∀ x, left 1000000 x = x.secsLeft := fun x => (hleft _ x).trans (unitsLeft_secs x)
  have hmillis : ∀ x, left 1000 x = x.millisLeft := fun x => (hleft _ x).trans (unitsLeft_millis x)
  have hran : ∀ full x, ran full x = x.secsRun full := fun full x => by cases x <;> rfl
  have hobject : ∀ o, object o = o.code := fun o => by cases o <;> rfl
  have hlp : ∀ x, lpState x = x.code := LpState.code_eq
  have hentry : ∀ e, entry e = entryBytes e := fun e => by
    rw [entryBytes_eq, pairBytes_eq, ← Action.code_eq, ← Cause.code_eq]
    simp only [← hn, ← hopt]
    rfl
  have hclamped : clamped = clampedField s.loader.firstClamped := by
    rw [clampedField_eq]
    simp only [← hn, ← hobject]
    rfl
  have himage : imageStatus = leOpt 1 (s.loader.status.map ImageStatus.code) := by
    rw [← hopt, ← funext ImageStatus.code_eq]
  have htop : ∀ x, top x = [topAlertByte x] := fun x => by
    rw [topAlertByte_eq]
    simp only [← hn]
    rfl
  have hcode : ∀ x, code x = optCode x := fun x => by
    rw [optCode_eq]
    simp only [← hn, ← hobject]
    rfl
  have hservice : ∀ b, service b = serviceBytes b := fun b => by
    rw [serviceBytes_eq]
    simp only [← hn]
    rfl
  have hfault : ∀ r, fault r = faultRecord r := fun r => by
    have hstate : FaultState.code = fun x => match x with
        | .lp st => lpState st
        | .startUp => 0
        | .passive => 1 := funext fun x => by cases x <;> [exact (hlp _).symm; rfl; rfl]
    rw [faultRecord_eq, hstate]
    simp only [← hn, ← hopt, ← hmarks, ← hcode]
    rfl
  clear_value n opt mark marks left ran entry object clamped imageStatus top code lpState service fault
  simp only [hn, hopt, hmark, hmarks, hsecs, hmillis, hran, hentry, hclamped, himage, htop, hlp, hservice,
    hfault, StationState.code_eq, PlantMode.code_eq, RoundPhase.code_eq, ActMode.code_eq, modeCode_eq,
    StartCause.code_eq]
  refine ⟨?_, ?_, ?_, ?_, ?_, ?_, ?_, ?_⟩
  · exact congrArg₂ List.cons (statusRecord_eq s) rfl
  · exact congrArg (fun f => lpIds.map f) (funext fun i => runtimeRecord_eq s i)
  · exact List.length_map ..
  · intro k e he
    refine ⟨e.ordered, e.ordered_spec.1, e.ordered_spec.2, ?_⟩
    rw [← peerRecord_eq]
    exact List.getElem?_map.trans (congrArg _ he)
  · show lastRoundTable s = _
    unfold lastRoundTable
    cases s.round.last with
    | none => rfl
    | some r => exact congrArg₂ List.cons (lastRoundHead_eq r) (congrArg (fun f => r.entries.map f) (funext lastRoundEntry_eq))
  · exact congrArg (· ++ _) (lps_map ..)
  · exact congrArg (fun r => [r]) (counterRecord_eq s)
  · exact echoTable_eq s

end Sys2Proof.Machine
end

section
/-! PROOFS, the frames a station sends, read back by another (R69 to R71, R78, R86, R119, R172; sections 11.1, 11.2). -/

namespace Sys2Proof.Machine

/-! ### Bytes at their offsets -/

theorem byteAt_append (xs ys : List Byte) (k : Nat) : byteAt (xs ++ ys) (xs.length + k) = byteAt ys k := by
  rw [byteAt, List.getD_append_right _ _ _ _ (Nat.le_add_right ..), Nat.add_sub_cancel_left]
  rfl

theorem halfAt_append (xs ys : List Byte) (k : Nat) : halfAt (xs ++ ys) (xs.length + k) = halfAt ys k := by
  rw [halfAt, Nat.add_assoc, byteAt_append, byteAt_append]
  rfl

/-- A number written low byte first reads as its two bytes together. -/
theorem half_of_bytes (n : Nat) : BitVec.ofNat 8 (n / 256) ++ BitVec.ofNat 8 n = (BitVec.ofNat 16 n : Half) := by
  apply BitVec.eq_of_toNat_eq
  rw [BitVec.toNat_append, BitVec.toNat_ofNat, BitVec.toNat_ofNat, BitVec.toNat_ofNat, ← Nat.shiftLeft_add_eq_or_of_lt
    (Nat.mod_lt _ (by decide)), Nat.shiftLeft_eq]
  omega

theorem half_toNat (x : Half) : BitVec.ofNat 8 (x.toNat / 256) ++ BitVec.ofNat 8 x.toNat = x := by
  rw [half_of_bytes, BitVec.ofNat_toNat, BitVec.setWidth_eq]

/-! ### The frame on the line (R69, R70, R77, R78) -/

/-- A frame of a payload of up to 64 bytes is received whole, with its CRC right. -/
theorem commandOf_wire (own : Option Byte) (f : Frame) (h : f.payload.length ≤ 64) :
    commandOf own f.wire = commandOfBody own f.kind f.source f.destination f.seq f.payload := by
  have hlen : (BitVec.ofNat 8 f.payload.length).toNat = f.payload.length := by
    rw [BitVec.toNat_ofNat]
    omega
  have hcrc : halfAt (f.payload ++ le 2 (crc f.body).toNat) f.payload.length = crc f.body := by
    have hh := halfAt_append f.payload (le 2 (crc f.body).toNat) 0
    rw [Nat.add_zero] at hh
    exact hh.trans (half_toNat _)
  have hwire : f.wire = f.kind :: f.source :: f.destination :: f.seq :: BitVec.ofNat 8 f.payload.length ::
      (f.payload ++ le 2 (crc f.body).toNat) := rfl
  have hwhole : ¬(64 < f.payload.length ∨ (f.payload ++ le 2 (crc f.body).toNat).length ≠ f.payload.length + 2) := by
    rw [List.length_append, show (le 2 (crc f.body).toNat).length = 2 from rfl]
    omega
  rw [hwire]
  unfold commandOf
  dsimp only
  rw [hlen, if_neg hwhole, List.take_left' rfl, hcrc]
  exact if_neg (not_not.mpr rfl)

section
variable {own : Option Byte} {src seq : Byte} (hs : isStation src = true) (ho : own ≠ some src)
include hs ho

theorem commandOfBody_beacon {p : List Byte} {m : BeaconMsg} (h : readBeacon p = some m) :
    commandOfBody own kindBeacon src broadcast seq p = .beacon src seq m := by
  unfold commandOfBody
  dsimp only
  rw [if_pos ⟨rfl, hs, rfl⟩, h]
  exact if_neg ho

theorem commandOfBody_plan {p : List Byte} {page : PlanPage} (h : readPage p = some page) :
    commandOfBody own kindPlan src broadcast seq p = .plan src seq page := by
  unfold commandOfBody
  dsimp only
  rw [if_neg (fun hk => absurd hk.1 (by decide)), if_pos ⟨rfl, hs, rfl⟩, h]
  exact if_neg ho

theorem commandOfBody_intent {p : List Byte} {raws : List RawEntry} (h : readIntent p = some raws) :
    commandOfBody own kindIntent src broadcast seq p = .intent src seq raws := by
  unfold commandOfBody
  dsimp only
  rw [if_neg (fun hk => absurd hk.1 (by decide)), if_neg (fun hk => absurd hk.1 (by decide)), if_pos ⟨rfl, hs, rfl⟩, h]
  exact if_neg ho

end

/-! ### BEACON (R86, R172) -/

/-- The mode a beacon of the state carries. -/
def State.sentMode (s : State) : BeaconMode :=
  if s.listening then .listenIn else match s.mode.plant with
    | .day => .day
    | .night => .night
    | .wake => .wake

theorem beaconMode_eq (s : State) : s.beaconMode = modeCode s.sentMode := by
  unfold State.beaconMode State.sentMode
  split
  · rfl
  · cases s.mode.plant <;> rfl

/-- The mode and the four marks of a beacon's first byte. -/
theorem beaconMarks_read (m : BeaconMode) : ∀ a b c d : Bool,
    let x := BitVec.ofNat 8 (modeCode m + 16 * marksOf [a, b, c, d])
    beaconModeOf (x.extractLsb' 0 2) = m ∧ x.getLsbD 4 = a ∧ x.getLsbD 5 = b ∧ x.getLsbD 6 = c ∧ x.getLsbD 7 = d := by
  cases m <;> decide

theorem topAlertByte_read : ∀ (c : Fin 9) (l : Fin 8),
    ((topAlertByte (some (c.val + 1, l.val))).extractLsb' 4 4).toNat = c.val + 1 ∧
    ((topAlertByte (some (c.val + 1, l.val))).extractLsb' 0 3).toNat = l.val := by decide

theorem figureBytes_length (v : SvcId) (d c : Nat) : (figureBytes v d c).length = 5 := rfl

theorem flatMap_length {α : Type} {f : α → List Byte} {k : Nat} (h : ∀ x, (f x).length = k) (xs : List α) :
    (xs.flatMap f).length = k * xs.length := by
  induction xs with
  | nil => rfl
  | cons x xs ih => rw [List.flatMap_cons, List.length_append, h, ih, List.length_cons, Nat.mul_succ, Nat.add_comm]

theorem readFigures_eq (demand capacity : SvcId → Nat) : ∀ (vs : List SvcId) (xs : List Byte),
    readFigures (xs ++ vs.flatMap fun v => figureBytes v (demand v) (capacity v)) xs.length vs.length =
    vs.map fun v => { service := BitVec.ofNat 8 v.val, demand := BitVec.ofNat 16 (demand v),
                      capacity := BitVec.ofNat 16 (capacity v) }
  | [], _ => rfl
  | v :: vs, xs => by
    have ih := readFigures_eq demand capacity vs (xs ++ figureBytes v (demand v) (capacity v))
    rw [List.length_append, figureBytes_length, List.append_assoc] at ih
    rw [List.flatMap_cons, List.length_cons, readFigures, ih, List.map_cons, halfAt_append, halfAt_append]
    have hb := byteAt_append xs (figureBytes v (demand v) (capacity v) ++
      vs.flatMap fun v => figureBytes v (demand v) (capacity v)) 0
    rw [Nat.add_zero] at hb
    rw [hb]
    exact congrArg₂ (fun d c => RawFigure.mk (BitVec.ofNat 8 v.val) d c :: _) (half_of_bytes _) (half_of_bytes _)

theorem beaconServices_length (s : State) : s.beaconServices.length ≤ 12 := List.length_filter_le _ _

theorem beaconPayload_length (s : State) : (beaconPayload s).length = 4 + 5 * s.beaconServices.length := by
  have hf := flatMap_length (fun v => figureBytes_length v (s.ownDemand v) (s.ownCapacity v)) s.beaconServices
  unfold beaconPayload
  rw [List.length_append, hf]
  rfl

/-- What a beacon of the state carries. -/
def State.sentBeacon (s : State) : BeaconMsg :=
  { mode := s.sentMode, nightLine := s.mode.nightLevel.getD false, planRequest := s.planRequest,
    viewOverflow := s.viewOverflow, isolated := s.mode.isolated, interval := s.station.statusInterval,
    alertClass := (topAlertByte s.topAlertCode).extractLsb' 4 4
    alertLevel := (topAlertByte s.topAlertCode).extractLsb' 0 3
    figures := s.beaconServices.map fun v =>
      { service := BitVec.ofNat 8 v.val, demand := BitVec.ofNat 16 (s.ownDemand v),
        capacity := BitVec.ofNat 16 (s.ownCapacity v) } }

theorem readBeacon_payload (s : State) : readBeacon (beaconPayload s) = some s.sentBeacon := by
  have hn := beaconServices_length s
  have hcount : (byteAt (beaconPayload s) 3).toNat = s.beaconServices.length := by
    show (BitVec.ofNat 8 s.beaconServices.length).toNat = _
    rw [BitVec.toNat_ofNat]
    omega
  obtain ⟨hm, ha, hb, hc, hd⟩ := beaconMarks_read s.sentMode (s.mode.nightLevel.getD false) s.planRequest s.viewOverflow
    s.mode.isolated
  rw [← beaconMode_eq] at hm ha hb hc hd
  have hfigures : readFigures (beaconPayload s) 4 s.beaconServices.length = s.sentBeacon.figures :=
    readFigures_eq s.ownDemand s.ownCapacity s.beaconServices [_, _, _, _]
  unfold readBeacon
  dsimp only
  rw [hcount, if_pos ⟨beaconPayload_length s, hn⟩, hfigures]
  refine congrArg some ?_
  show BeaconMsg.mk _ _ _ _ _ _ _ _ _ = _
  rw [show byteAt (beaconPayload s) 0 = BitVec.ofNat 8 (s.beaconMode + 16 * marksOf [s.mode.nightLevel.getD false,
    s.planRequest, s.viewOverflow, s.mode.isolated]) from rfl, hm, ha, hb, hc, hd]
  rfl

/-! ### PLAN pages (R172, section 11.2) -/

theorem readService_append (xs ys : List Byte) (o : Nat) : readService (xs ++ ys) (xs.length + o) = readService ys o := by
  unfold readService
  simp only [Nat.add_assoc, byteAt_append, halfAt_append]

theorem readService_serviceBytes (b : ServiceBlock) (ys : List Byte) : readService (serviceBytes b ++ ys) 0 = b := by
  obtain ⟨inUse, margin, cmin, hold, confirm⟩ := b
  exact congrArg₂ (fun c h => ServiceBlock.mk inUse margin c h confirm) (half_toNat cmin) (half_toNat hold)

/-- Four services written one after another. -/
def fourServices (a b c d : ServiceBlock) : List Byte :=
  serviceBytes a ++ (serviceBytes b ++ (serviceBytes c ++ (serviceBytes d ++ [])))

theorem fourServices_length (a b c d : ServiceBlock) : (fourServices a b c d).length = 28 := rfl

theorem readServices_append (xs ys : List Byte) : readServices (xs ++ ys) xs.length = readServices ys 0 := by
  unfold readServices
  rw [readService_append, readService_append, readService_append]
  have h := readService_append xs ys 0
  rw [Nat.add_zero] at h
  rw [h]

theorem readServices_fourServices (a b c d : ServiceBlock) : readServices (fourServices a b c d) 0 = ⟨a, b, c, d⟩ := by
  have hb := readService_append (serviceBytes a) (serviceBytes b ++ (serviceBytes c ++ (serviceBytes d ++ []))) 0
  have hc := readService_append (serviceBytes a ++ serviceBytes b) (serviceBytes c ++ (serviceBytes d ++ [])) 0
  have hd := readService_append (serviceBytes a ++ serviceBytes b ++ serviceBytes c) (serviceBytes d ++ []) 0
  rw [readService_serviceBytes] at hb hc hd
  exact congr (congr (congrArg₂ PageServices.mk (readService_serviceBytes a _) hb) hc) hd

theorem services_toList (c : Configuration) : c.services.toList = svcIds.map fun v => c.services[v] := by
  have h := services_map id c.services
  rw [List.map_id] at h
  exact h

theorem pagePayload_first (c : Configuration) : pagePayload c 0 =
    (0 :: planBytes c.plan) ++ fourServices c.services[0] c.services[1] c.services[2] c.services[3] := by
  unfold pagePayload
  rw [services_toList]
  rfl

theorem pagePayload_second (c : Configuration) : pagePayload c 1 =
    ([1] : List Byte) ++ fourServices c.services[4] c.services[5] c.services[6] c.services[7] := by
  unfold pagePayload
  rw [services_toList]
  rfl

theorem pagePayload_third (c : Configuration) : pagePayload c 2 =
    ([2] : List Byte) ++ fourServices c.services[8] c.services[9] c.services[10] c.services[11] := by
  unfold pagePayload
  rw [services_toList]
  rfl

theorem readPage_first (p : PlanBlock) (a b c d : ServiceBlock) :
    readPage ((0 :: planBytes p) ++ fourServices a b c d) = some (.first p ⟨a, b, c, d⟩) := by
  have hs := readServices_append (0 :: planBytes p) (fourServices a b c d)
  rw [readServices_fourServices] at hs
  have hplan : PlanBlock.mk (halfAt ((0 :: planBytes p) ++ fourServices a b c d) 1)
      (halfAt ((0 :: planBytes p) ++ fourServices a b c d) 3) (halfAt ((0 :: planBytes p) ++ fourServices a b c d) 5)
      (halfAt ((0 :: planBytes p) ++ fourServices a b c d) 7) = p := by
    exact congr (congr (congrArg₂ PlanBlock.mk (half_toNat p.planNumber) (half_toNat p.w)) (half_toNat p.g))
      (half_toNat p.b)
  exact congrArg₂ (fun p s => some (PlanPage.first p s)) hplan hs

theorem readPage_later {n : Byte} (hn : n ≠ 0) (a b c d : ServiceBlock) :
    readPage ([n] ++ fourServices a b c d) = some (.later n ⟨a, b, c, d⟩) := by
  have hs := readServices_append [n] (fourServices a b c d)
  rw [readServices_fourServices] at hs
  exact (if_neg hn).trans (congrArg (fun s => some (PlanPage.later n s)) hs)

/-! ### INTENT entries (R119, R172, section 11.2) -/

/-- The k-th demand pair as it is written. -/
def writtenPair (ds : List (SvcId × Nat)) (k : Nat) : RawPair := match ds[k]? with
  | some (v, u) => ⟨BitVec.ofNat 8 v.val, BitVec.ofNat 8 u⟩
  | none => ⟨Config.unusedPairByte (2 * k), Config.unusedPairByte (2 * k + 1)⟩

/-- The fields of an entry as they are written. -/
def Entry.written (e : Entry) : RawEntry :=
  { lp := BitVec.ofNat 8 e.lp.val, action := BitVec.ofNat 8 e.action.code, cause := BitVec.ofNat 8 e.cause.code
    level := BitVec.ofNat 8 e.level
    provides := match e.provides with
      | some v => BitVec.ofNat 8 v.val
      | none => 255
    capacity := BitVec.ofNat 16 e.capacity, inrush := BitVec.ofNat 8 e.inrush
    pairCount := BitVec.ofNat 8 e.demands.length
    pair0 := writtenPair e.demands 0, pair1 := writtenPair e.demands 1, pair2 := writtenPair e.demands 2 }

theorem pairBytes_written (ds : List (SvcId × Nat)) : pairBytes ds =
    [(writtenPair ds 0).service, (writtenPair ds 0).units, (writtenPair ds 1).service, (writtenPair ds 1).units,
      (writtenPair ds 2).service, (writtenPair ds 2).units] := by
  have hpairs : pairBytes ds = [0, 1, 2].flatMap fun k => [(writtenPair ds k).service, (writtenPair ds k).units] :=
    congrArg (fun f => List.flatMap f [0, 1, 2]) (funext fun k => by unfold writtenPair; cases ds[k]? <;> rfl)
  rw [hpairs]
  rfl

theorem entryBytes_written (e : Entry) : entryBytes e = [e.written.lp, e.written.action, e.written.cause,
    e.written.level, e.written.provides, BitVec.ofNat 8 e.capacity, BitVec.ofNat 8 (e.capacity / 256),
    e.written.inrush, e.written.pairCount, e.written.pair0.service, e.written.pair0.units, e.written.pair1.service,
    e.written.pair1.units, e.written.pair2.service, e.written.pair2.units] := by
  have hp : leOpt 1 (e.provides.map Fin.val) = [e.written.provides] := by
    unfold Entry.written
    cases e.provides <;> rfl
  unfold entryBytes
  rw [hp, pairBytes_written]
  rfl

theorem entryBytes_length (e : Entry) : (entryBytes e).length = 15 := by
  rw [entryBytes_written]
  rfl

theorem readEntry_append (xs ys : List Byte) : readEntry (xs ++ ys) xs.length = readEntry ys 0 := by
  have h := byteAt_append xs ys 0
  rw [Nat.add_zero] at h
  unfold readEntry
  simp only [byteAt_append, halfAt_append, h, Nat.zero_add]

theorem readEntry_entryBytes (e : Entry) (ys : List Byte) : readEntry (entryBytes e ++ ys) 0 = e.written := by
  rw [entryBytes_written]
  exact congrArg (fun x => { e.written with capacity := x }) (half_of_bytes e.capacity)

theorem readEntries_eq : ∀ (es : List Entry) (xs : List Byte),
    readEntries (xs ++ es.flatMap entryBytes) xs.length es.length = es.map Entry.written
  | [], _ => rfl
  | e :: es, xs => by
    have ih := readEntries_eq es (xs ++ entryBytes e)
    rw [List.length_append, entryBytes_length, List.append_assoc] at ih
    rw [List.flatMap_cons, List.length_cons, readEntries, ih, readEntry_append, readEntry_entryBytes, List.map_cons]

theorem intentPayload_length (es : List Entry) : (intentPayload es).length = 1 + 15 * es.length := by
  rw [intentPayload, List.length_cons, flatMap_length entryBytes_length, Nat.add_comm]

theorem readIntent_payload {es : List Entry} (h1 : 1 ≤ es.length) (h4 : es.length ≤ 4) :
    readIntent (intentPayload es) = some (es.map Entry.written) := by
  have hcount : (byteAt (intentPayload es) 0).toNat = es.length := by
    show (BitVec.ofNat 8 es.length).toNat = _
    rw [BitVec.toNat_ofNat]
    omega
  unfold readIntent
  dsimp only
  rw [hcount, if_pos ⟨intentPayload_length es, h1, h4⟩]
  exact congrArg some (readEntries_eq es [BitVec.ofNat 8 es.length])

/-! ### A written entry reads as the entry it was -/

theorem byte_toNat {n : Nat} (h : n < 256) : (BitVec.ofNat 8 n).toNat = n := by
  rw [BitVec.toNat_ofNat]
  omega

/-- A demand pair as it is written. -/
def writtenDemand (d : SvcId × Nat) : RawPair := ⟨BitVec.ofNat 8 d.1.val, BitVec.ofNat 8 d.2⟩

theorem pairOf_writtenDemand {d : SvcId × Nat} (h1 : 1 ≤ d.2) (h : d.2 < 256) : pairOf (writtenDemand d) = some d := by
  have hv := d.1.isLt
  refine pairOf_eq_some.mpr ⟨fun h0 => ?_, byte_toNat (by omega), byte_toNat h⟩
  have hz := congrArg BitVec.toNat h0
  rw [show (writtenDemand d).units.toNat = d.2 from byte_toNat h] at hz
  exact absurd hz (by show d.2 ≠ 0; omega)

theorem rawPairs_written (e : Entry) (h : e.demands.length ≤ 3) : rawPairs e.written = e.demands.map writtenDemand := by
  have hcount : e.written.pairCount.toNat = e.demands.length := byte_toNat (by omega)
  have htake : ∀ ds : List (SvcId × Nat), ds.length ≤ 3 →
      [writtenPair ds 0, writtenPair ds 1, writtenPair ds 2].take ds.length = ds.map writtenDemand := by
    rintro (_ | ⟨a, _ | ⟨b, _ | ⟨c, _ | ⟨d, ds⟩⟩⟩⟩) h
    · rfl
    · rfl
    · rfl
    · rfl
    · simp only [List.length_cons] at h
      omega
  rw [rawPairs, hcount]
  exact htake e.demands h

theorem rawDemands_written {e : Entry} (h3 : e.demands.length ≤ 3) (hn : (e.demands.map Prod.fst).Nodup)
    (hu : ∀ d ∈ e.demands, 1 ≤ d.2 ∧ d.2 < 256) : rawDemands e.written = some e.demands := by
  have hread : (e.demands.map writtenDemand).filterMap pairOf = e.demands := by
    rw [List.filterMap_map]
    refine (List.filterMap_congr fun d hd => ?_).trans List.filterMap_some
    exact pairOf_writtenDemand (hu d hd).1 (hu d hd).2
  have hsome : ∀ p ∈ e.demands.map writtenDemand, (pairOf p).isSome = true := fun p hp => by
    obtain ⟨d, hd, rfl⟩ := List.mem_map.mp hp
    rw [pairOf_writtenDemand (hu d hd).1 (hu d hd).2]
    rfl
  rw [rawDemands_eq_some, rawPairs_written e h3]
  refine ⟨(byte_toNat (by omega)).trans_le h3, hsome, (pairs_distinct hsome).mp ?_, hread⟩
  rw [hread]
  exact hn

theorem rawToEntry_written {e : Entry} (hlevel : 1 ≤ e.level ∧ e.level ≤ 7) (hcap : e.capacity ≤ 4000)
    (hinrush : e.inrush < 256) (h3 : e.demands.length ≤ 3) (hu : ∀ d ∈ e.demands, 1 ≤ d.2 ∧ d.2 < 256)
    (hn : (e.demands.map Prod.fst).Nodup) (hfit : causeFits e.action e.cause = true)
    (hstop : e.action = .stop → e.provides.isSome = true) (hprov : e.provides.isSome = true → 1 ≤ e.capacity) :
    rawToEntry e.written = some e := by
  have hlv : e.written.level.toNat = e.level := byte_toNat (by omega)
  have hcp : e.written.capacity.toNat = e.capacity := by
    show (BitVec.ofNat 16 e.capacity).toNat = _
    rw [BitVec.toNat_ofNat]
    omega
  have hlp := e.lp.isLt
  refine rawToEntry_eq_some.mpr ⟨lpOfByte_eq_some.mpr (byte_toNat (by omega)), ?_, ?_, ?_,
    rawDemands_written h3 hn hu, ?_, hlv, hcp, byte_toNat hinrush⟩
  · show actionOf (BitVec.ofNat 8 e.action.code) = _
    cases e.action <;> rfl
  · show causeOf (BitVec.ofNat 8 e.cause.code) = _
    cases e.cause <;> rfl
  · unfold Entry.written
    cases hp : e.provides with
    | none => rfl
    | some v =>
      have hv := v.isLt
      have hb : (BitVec.ofNat 8 v.val).toNat = v.val := byte_toNat (by omega)
      refine providesField_eq_some.mpr (.inr ⟨fun h => ?_, v, rfl, hb⟩)
      have := congrArg BitVec.toNat h
      rw [hb] at this
      exact absurd this (by show v.val ≠ 255; omega)
  · rw [hlv, hcp]
    exact ⟨hfit, hlevel.1, hlevel.2, hcap, hstop, hprov⟩

/-- Settles O32. -/
theorem stationFramesReadBack : Obligations.StationFramesReadBack := by
  intro own src seq hs ho
  refine ⟨fun s => ?_, fun c k hk => ?_, fun es h1 h4 hes => ?_⟩
  · have hlen := beaconPayload_length s
    have hn := beaconServices_length s
    refine ⟨s.sentBeacon, (commandOf_wire own _ (by show (beaconPayload s).length ≤ 64; omega)).trans
      (commandOfBody_beacon hs ho (readBeacon_payload s)), rfl, rfl, rfl, rfl, rfl, fun h => ?_, fun e l h hl => ?_, rfl,
      rfl⟩
    · show (topAlertByte (s.topAlert.map _)).extractLsb' 4 4 = 0
      rw [h]
      rfl
    · show ((topAlertByte (s.topAlert.map _)).extractLsb' 4 4).toNat = _ ∧
        ((topAlertByte (s.topAlert.map _)).extractLsb' 0 3).toNat = _
      rw [h]
      exact topAlertByte_read e.index ⟨l, by omega⟩
  · have hpage : ∃ page, readPage (pagePayload c k) = some page ∧ (pagePayload c k).length ≤ 64 ∧
        (k = 0 → page = .first c.plan ⟨c.services[0], c.services[1], c.services[2], c.services[3]⟩) ∧
        (k = 1 → page = .later 1 ⟨c.services[4], c.services[5], c.services[6], c.services[7]⟩) ∧
        (k = 2 → page = .later 2 ⟨c.services[8], c.services[9], c.services[10], c.services[11]⟩) := by
      obtain rfl | rfl | rfl : k = 0 ∨ k = 1 ∨ k = 2 := by omega
      · rw [pagePayload_first, readPage_first]
        exact ⟨_, rfl, by rw [List.length_append, fourServices_length]; exact Nat.le_of_ble_eq_true rfl, fun _ => rfl, nofun, nofun⟩
      · rw [pagePayload_second, readPage_later (by decide)]
        exact ⟨_, rfl, by rw [List.length_append, fourServices_length]; exact Nat.le_of_ble_eq_true rfl, nofun, fun _ => rfl, nofun⟩
      · rw [pagePayload_third, readPage_later (by decide)]
        exact ⟨_, rfl, by rw [List.length_append, fourServices_length]; exact Nat.le_of_ble_eq_true rfl, nofun, nofun, fun _ => rfl⟩
    obtain ⟨page, hread, hlen, hspec⟩ := hpage
    exact ⟨page, (commandOf_wire own _ hlen).trans (commandOfBody_plan hs ho hread), hspec⟩
  · have hlen := intentPayload_length es
    refine ⟨es.map Entry.written, (commandOf_wire own _ (by show (intentPayload es).length ≤ 64; omega)).trans
      (commandOfBody_intent hs ho (readIntent_payload h1 h4)), fun hfit => ?_⟩
    rw [List.map_map]
    refine List.map_congr_left fun e he => ?_
    obtain ⟨-, -, hinrush, h3, hu⟩ := hes e he
    obtain ⟨hcause, hlo, hhi, hcap, hstop, hprov, hn, hone⟩ := hfit e he
    exact rawToEntry_written ⟨hlo, hhi⟩ hcap hinrush h3 (fun d hd => ⟨hone d hd, hu d hd⟩) hn hcause hstop hprov

end Sys2Proof.Machine
end
